-- ==== Sys2Proof/Word.lean ====
section
/-! DEFINITION. The byte of the serial line, and the wrapping and saturating counts of para 0.6.1. -/

namespace Sys2Proof

/-- One character of the host link: 8 data bits (R138). -/
abbrev Byte := BitVec 8

/-- A count that stops at `top` (para 0.6.1, "saturating"). -/
def satAdd (top n k : Nat) : Nat := min top (n + k)

/-- A count that returns to 0 after `top` (para 0.6.1, "wrapping"). -/
def wrapSucc (top n : Nat) : Nat := if n < top then n + 1 else 0

end Sys2Proof
end

