-- ==== Sys2Proof/Vocabulary.lean ====
section
/-! DEFINITION. The names of the spec as types: channels, states, reasons, settings, and the working configuration that
the profile holds (R123). Plain data only; nothing here says what anything does. -/

namespace Sys2Proof

/-- The eight channels (para 0.6.4). -/
inductive Chan where
  | ch0 | ch1 | ch2 | ch3 | ch4 | ch5 | ch6 | ch7
deriving DecidableEq, Repr, Inhabited

/-- The channel number, 0 to 7. -/
def Chan.toNat : Chan → Nat
  | .ch0 => 0 | .ch1 => 1 | .ch2 => 2 | .ch3 => 3 | .ch4 => 4 | .ch5 => 5 | .ch6 => 6 | .ch7 => 7

/-- The channels in ascending number. -/
def Chan.all : List Chan := [.ch0, .ch1, .ch2, .ch3, .ch4, .ch5, .ch6, .ch7]

/-- The channel of a number; none above 7. -/
def Chan.ofNat? (n : Nat) : Option Chan := Chan.all[n]?

/-- One value for each channel. -/
structure PerChan (α : Type) where
  c0 : α
  c1 : α
  c2 : α
  c3 : α
  c4 : α
  c5 : α
  c6 : α
  c7 : α
deriving DecidableEq, Repr, Inhabited

/-- The value of one channel. -/
def PerChan.get {α : Type} (p : PerChan α) : Chan → α
  | .ch0 => p.c0 | .ch1 => p.c1 | .ch2 => p.c2 | .ch3 => p.c3
  | .ch4 => p.c4 | .ch5 => p.c5 | .ch6 => p.c6 | .ch7 => p.c7

/-- Replace the value of one channel. -/
def PerChan.set {α : Type} (p : PerChan α) (c : Chan) (x : α) : PerChan α :=
  match c with
  | .ch0 => { p with c0 := x }
  | .ch1 => { p with c1 := x }
  | .ch2 => { p with c2 := x }
  | .ch3 => { p with c3 := x }
  | .ch4 => { p with c4 := x }
  | .ch5 => { p with c5 := x }
  | .ch6 => { p with c6 := x }
  | .ch7 => { p with c7 := x }

/-- Change the value of one channel. -/
def PerChan.update {α : Type} (p : PerChan α) (c : Chan) (f : α → α) : PerChan α := p.set c (f (p.get c))

/-- The values that a rule gives for every channel. -/
def PerChan.ofFn {α : Type} (f : Chan → α) : PerChan α :=
  ⟨f .ch0, f .ch1, f .ch2, f .ch3, f .ch4, f .ch5, f .ch6, f .ch7⟩

/-- The level of an input or output line: the filtered levels of R42 and R133 and ATTN of R170. -/
inductive Level where
  | released | asserted
deriving DecidableEq, Repr, Inhabited

/-- The level of the receive line (R138: the idle line is high). -/
inductive LineLevel where
  | high | low
deriving DecidableEq, Repr, Inhabited

/-- The channel state (R4). -/
inductive ChState where
  | disabled | off | queued | starting | on | cycleOff | cooldown | latched
deriving DecidableEq, Repr, Inhabited

/-- How the gate is driven (R4): off, held in regulation at the start current, or fully on. -/
inductive Gate where
  | off | regulating | full
deriving DecidableEq, Repr, Inhabited

/-- The last off reason (R3). -/
inductive OffReason where
  | none | host | schedule | trip | startFail | shedBudget | shedOverload | shedLine | watch | hostLoss | restart | budget
deriving DecidableEq, Repr, Inhabited

/-- The origin of a channel request or of a queue entry (R6, R31). -/
inductive Origin where
  | host | schedule | watch | session | profile | restart | retry | requeue
deriving DecidableEq, Repr, Inhabited

/-- The trip filter (R53): SHORT 25 µs, LONG 400 µs. -/
inductive TripFilter where
  | short | long
deriving DecidableEq, Repr, Inhabited

/-- The host-loss policy (R2). -/
inductive HostLossPolicy where
  | hold | switchOff
deriving DecidableEq, Repr, Inhabited

/-- The after-shed field (R2). -/
inductive AfterShed where
  | requeue | stayOff
deriving DecidableEq, Repr, Inhabited

/-- The cause of a CHANNEL_STATE notice (R7). -/
inductive ChangeCause where
  | grant | cycleReturn | up | cycleBegin | retry | budget
deriving DecidableEq, Repr, Inhabited

/-- The cause of a shed (R39, R40). -/
inductive ShedCause where
  | budget | line | overload
deriving DecidableEq, Repr, Inhabited

/-- The cause in a LATCHED notice (R57, R64). -/
inductive LatchCause where
  | retriesExhausted | watch
deriving DecidableEq, Repr, Inhabited

/-- The two faults (chapter 3). -/
inductive FaultKind where
  | trip | startFail
deriving DecidableEq, Repr, Inhabited

/-- What a watch measures (R83). -/
inductive WatchSource where
  | chan (c : Chan) | bus | total
deriving DecidableEq, Repr, Inhabited

/-- The quantity of a watch (R83). -/
inductive Quantity where
  | current | voltage | power
deriving DecidableEq, Repr, Inhabited

/-- The flag mode of a watch (R83). -/
inductive FlagMode where
  | latched | live
deriving DecidableEq, Repr, Inhabited

/-- The action of a watch with its target; NOTIFY has none (R83). -/
inductive WatchAction where
  | notify | switchOff (target : Chan) | latch (target : Chan)
deriving DecidableEq, Repr, Inhabited

/-- The level of a watch (R84). -/
inductive WatchLevel where
  | low | high
deriving DecidableEq, Repr, Inhabited

/-- The direction of a WATCH notice (R91). -/
inductive Direction where
  | rise | fall
deriving DecidableEq, Repr, Inhabited

/-- The action of a schedule entry (R110). -/
inductive SchedAction where
  | on | off | cycle
deriving DecidableEq, Repr, Inhabited

/-- The timing form of SCHED_ADD (R116). -/
inductive TimingForm where
  | delay | absolute
deriving DecidableEq, Repr, Inhabited

/-- The four link rates (R138), by their baud. -/
inductive LinkRate where
  | baud9600 | baud57600 | baud115200 | baud460800
deriving DecidableEq, Repr, Inhabited

/-- One of the two profile copies (R124). -/
inductive CopyId where
  | a | b
deriving DecidableEq, Repr, Inhabited

/-- Where the working configuration came from (R125). -/
inductive ProfileSource where
  | a | b | factory
deriving DecidableEq, Repr, Inhabited

/-- The save sequence (R126). -/
inductive SaveState where
  | idle | writing | verifying
deriving DecidableEq, Repr, Inhabited

/-- The outcome of a save (R126, R128). -/
inductive SaveOutcome where
  | none | ok | writeFail
deriving DecidableEq, Repr, Inhabited

/-- The cause of a start (R137). -/
inductive RestartCause where
  | powerOn | resetLine | restartRequest
deriving DecidableEq, Repr, Inhabited

/-- The class of a notice (R164). -/
inductive NoticeClass where
  | routine | urgent
deriving DecidableEq, Repr, Inhabited

/-- Where a notice stands in delivery (R166). -/
inductive Delivery where
  | unsent | offered | inFlight
deriving DecidableEq, Repr, Inhabited

/-- What became of a reply that must be followed by a signal (R151). -/
inductive ReplyFate where
  | sent | discarded
deriving DecidableEq, Repr, Inhabited

/-- The status codes of R176 by name. -/
inductive Status where
  | ok | started | already | unknownKind | badLength | badField | noSession | sessionActive | notConfigured | inUse
  | latched | cooling | busy | notOn | tooLarge | budgetInUse | slotsInUse | listFull | noSuchTag | duplicateTag
  | noSuchWatch | notInFlight | profileBusy
deriving DecidableEq, Repr, Inhabited

/-- The 13 notice kinds (R163, R177), in the order of their KIND values. -/
inductive NoticeKind where
  | channelState | trip | startFail | latched | shed | overload | shedLine | watch | scheduleFired | energyFull
  | profileSaved | hostLost | restarted
deriving DecidableEq, Repr, Inhabited

/-- The sixteen configuration fields of a channel (R2). -/
structure ChannelConfig where
  enabled       : Bool
  cls           : Nat
  allowance     : Nat
  startCurrent  : Nat
  startTime     : Nat
  goodLevel     : Nat
  tripCurrent   : Nat
  tripFilter    : TripFilter
  cooldown      : Nat
  retryLimit    : Nat
  retryWindow   : Nat
  cycleTime     : Nat
  hostLoss      : HostLossPolicy
  autoStart     : Bool
  afterShed     : AfterShed
  reportWindow  : Nat
deriving DecidableEq, Repr, Inhabited

/-- The five budget settings (R27). -/
structure BudgetSettings where
  limit        : Nat
  bypassLimit  : Nat
  slots        : Nat
  overloadHold : Nat
  busMinimum   : Nat
deriving DecidableEq, Repr, Inhabited

/-- The configuration fields of a watch record in use (R83). -/
structure WatchConfig where
  source   : WatchSource
  quantity : Quantity
  window   : Nat
  upper    : Nat
  lower    : Nat
  mode     : FlagMode
  action   : WatchAction
deriving DecidableEq, Repr, Inhabited

/-- The working configuration: the five parts of the profile (R123). A free watch record is `none`; bit k of the
subscription set is the notice kind of KIND 0x40 + k (R163, para 11.2.1). -/
structure WorkingConfig where
  channels      : PerChan ChannelConfig
  budget        : BudgetSettings
  watches       : List (Option WatchConfig)
  subscriptions : BitVec 13
  linkRate      : LinkRate
deriving DecidableEq, Repr, Inhabited

/-- What one non-volatile copy holds once it has been written whole (R124). -/
structure StoredCopy where
  generation : Nat
  contents   : WorkingConfig
  check      : BitVec 32
deriving DecidableEq, Repr, Inhabited

/-- What the storage holds when the write of a save ends (R128): the capture; or something else, which the storage has
reported as a failed write or which the verify has to find out. `none` is a copy that is not whole (log 8). -/
inductive WriteEnd where
  | complete
  | reportedFailure (found : Option StoredCopy)
  | other (found : Option StoredCopy)
deriving DecidableEq, Repr, Inhabited

/-- What the terminals of one channel show in a round: load current in mA and output voltage in mV, as the inputs stand,
full scale or above included (R70). -/
structure Reading where
  current : Nat
  voltage : Nat
deriving DecidableEq, Repr, Inhabited

/-- The nine points of one round (para 4.1.1). -/
structure Readings where
  bus   : Nat
  chans : PerChan Reading
deriving DecidableEq, Repr, Inhabited

end Sys2Proof
end

