-- ==== Sys2Proof/Syntax.lean ====
section
/-! DEFINITION. The commands of the block: one constructor for each row of spec/opcode_table.json, in the table's order.
A request row is the DISPATCH of the oldest WAITING entry of the request queue (R147); its operands are in that entry's
payload (chapter 11), so the constructor has none. -/

namespace Sys2Proof

/-- The commands. Each docstring names the rule the table gives the row. -/
inductive Instr where
  /-- POWER_ON (R132): the logic supply is applied; the lines have the levels that State holds. -/
  | powerOn
  /-- POWER_LOSS (R129): the logic supply is lost. -/
  | powerLoss
  /-- RESET_LINE_CHANGE (R133): the RESET line takes a level. -/
  | resetLineChange (level : Level)
  /-- RESET_FILTER_EXPIRY (R133). -/
  | resetFilterExpiry
  /-- SHED_LINE_CHANGE (R42): the SHED line takes a level. -/
  | shedLineChange (level : Level)
  /-- SHED_FILTER_EXPIRY (R42). -/
  | shedFilterExpiry
  /-- ROUND_COMPLETE (R69): the round in progress completes with these readings. -/
  | roundComplete (readings : Readings)
  /-- ROUND_DELIVERY_CHANNEL (R15): a Channel Controller takes its next round delivery. -/
  | roundDeliveryChannel (c : Chan)
  /-- ROUND_DELIVERY_BUDGET (R45). -/
  | roundDeliveryBudget
  /-- OVERLOAD_HOLD_EXPIRY (R47). -/
  | overloadHoldExpiry
  /-- ROUND_DELIVERY_WATCH (R86). -/
  | roundDeliveryWatch
  /-- ROUND_DELIVERY_METER (R99). -/
  | roundDeliveryMeter
  /-- SENSE_CURRENT_CHANGE (R55): the channel current becomes so many mA. -/
  | senseCurrentChange (c : Chan) (current : Nat)
  /-- COMPARATOR_OPERATE (R55): the current has stayed above the threshold for the whole filter time. -/
  | comparatorOperate (c : Chan)
  /-- TRIP_EVENT (R56): the channel takes the trip event that carries an arming number. -/
  | tripEvent (c : Chan) (arming : Nat)
  /-- START_TIMER_EXPIRY (R59). -/
  | startTimerExpiry (c : Chan)
  /-- RETRY_WINDOW_EXPIRY (R61). -/
  | retryWindowExpiry (c : Chan)
  /-- CYCLE_TIMER_EXPIRY (R20). -/
  | cycleTimerExpiry (c : Chan)
  /-- COOLDOWN_EXPIRY (R63). -/
  | cooldownExpiry (c : Chan)
  /-- QUEUE_GRANT (R13): the queue grant naming a join number reaches the channel. -/
  | queueGrant (c : Chan) (join : Nat)
  /-- CYCLE_RETURN_GRANT (R13): the cycle-return grant naming a claim number reaches the channel. -/
  | cycleReturnGrant (c : Chan) (claim : Nat)
  /-- REPLY_SENT_CYCLE (R18): the reply-sent signal naming a CHANNEL_CYCLE request reaches the channel. -/
  | replySentCycle (c : Chan) (request : Nat)
  /-- REPLY_DISCARDED_CYCLE (R18). -/
  | replyDiscardedCycle (c : Chan) (request : Nat)
  /-- RESTART_REPLY_SIGNAL (R134): the signal for a RESTART request reaches the Profile Store. -/
  | restartReplySignal (fate : ReplyFate) (request : Nat)
  /-- DUE_PASS (R112). -/
  | duePass
  /-- SAVE_WRITE_END (R128): the write ends, leaving this in the storage. -/
  | saveWriteEnd (result : WriteEnd)
  /-- SAVE_VERIFY_END (R128). -/
  | saveVerifyEnd
  /-- RECEIVE_CHARACTER_ERROR (R140): a character whose stop bit is low. -/
  | receiveCharacterError
  /-- FRAME_ABANDON_BAD_LEN (R140): a LEN byte of 0, 1 or 251 to 255. -/
  | frameAbandonBadLen (len : Byte)
  /-- GAP_TIMER_EXPIRY (R141). -/
  | gapTimerExpiry
  /-- FRAME_COMPLETE (R142): the second check byte is taken. -/
  | frameComplete (last : Byte)
  /-- VALID_FRAME_SIGNAL (R159). -/
  | validFrameSignal
  /-- RECEIVE_LINE_CHANGE (R143): the receive line goes low or returns high. -/
  | receiveLineChange (level : LineLevel)
  /-- BREAK_TIMER_EXPIRY (R143). -/
  | breakTimerExpiry
  /-- TRANSMIT_FRAME_END (R150): the last character of the frame leaves. -/
  | transmitFrameEnd
  /-- NOTICE_SENT (R166): the notice-sent signal for an NSEQ. -/
  | noticeSent (nseq : Nat)
  /-- ACK_TIMER_EXPIRY (R168). -/
  | ackTimerExpiry
  /-- KEEPALIVE_EXPIRY (R160). -/
  | keepaliveExpiry
  /-- UNKNOWN_KIND (R174): dispatch of a frame whose KIND is not assigned. -/
  | unknownKind
  /-- IDENTIFY (R155). -/
  | identify
  /-- LINK_STATUS (R154). -/
  | linkStatus
  /-- LINK_CONFIG (R139). -/
  | linkConfig
  /-- SESSION_OPEN (R158). -/
  | sessionOpen
  /-- SESSION_CLOSE (R161). -/
  | sessionClose
  /-- PING (R161). -/
  | ping
  /-- NOTICE_ACK (R167). -/
  | noticeAck
  /-- SUBSCRIBE (R163). -/
  | subscribe
  /-- CHANNEL_CONFIG (R22). -/
  | channelConfig
  /-- CHANNEL_QUERY (R24). -/
  | channelQuery
  /-- CHANNEL_ON (R8). -/
  | channelOn
  /-- CHANNEL_OFF (R9). -/
  | channelOff
  /-- CHANNEL_CYCLE (R10). -/
  | channelCycle
  /-- CHANNEL_CLEAR (R11). -/
  | channelClear
  /-- BUDGET_CONFIG (R48). -/
  | budgetConfig
  /-- BUDGET_QUERY (R50). -/
  | budgetQuery
  /-- MEASURE_READ (R78). -/
  | measureRead
  /-- ENERGY_READ (R101). -/
  | energyRead
  /-- PEAK_READ (R106). -/
  | peakRead
  /-- WATCH_SET (R92). -/
  | watchSet
  /-- WATCH_DELETE (R93). -/
  | watchDelete
  /-- WATCH_CLEAR (R94). -/
  | watchClear
  /-- WATCH_QUERY (R95). -/
  | watchQuery
  /-- SCHED_ADD (R117). -/
  | schedAdd
  /-- SCHED_CANCEL (R118). -/
  | schedCancel
  /-- SCHED_LIST (R119). -/
  | schedList
  /-- PROFILE_SAVE (R127). -/
  | profileSave
  /-- PROFILE_QUERY (R131). -/
  | profileQuery
  /-- RESTART (R134). -/
  | restart
  /-- CHARACTER_RECEIVED (R140): a character without a character error. -/
  | characterReceived (char : Byte)
deriving DecidableEq, Repr, Inhabited

end Sys2Proof
end

