-- ==== Sys2Proof/Config.lean ====
section
/-! DEFINITION. What the part fixes, and what the spec leaves open. The opaque constants have no body: nothing in Lean can
evaluate them or prove a value of them, so a claim holds whatever they are. -/

namespace Sys2Proof

/-- The factory values of the sixteen fields (R2). -/
def Config.factoryChannel : ChannelConfig where
  enabled := false
  cls := 2
  allowance := 10
  startCurrent := 1000
  startTime := 50
  goodLevel := 90
  tripCurrent := 5000
  tripFilter := .long
  cooldown := 1000
  retryLimit := 2
  retryWindow := 60
  cycleTime := 3000
  hostLoss := .hold
  autoStart := false
  afterShed := .requeue
  reportWindow := 16

/-- The factory values of the five settings (R27). -/
def Config.factoryBudget : BudgetSettings where
  limit := 200
  bypassLimit := 3
  slots := 1
  overloadHold := 100
  busMinimum := 10000

/-- The factory working configuration (R123): every watch record free, every notice kind subscribed, 115,200 baud. -/
def Config.factory : WorkingConfig where
  channels := PerChan.ofFn fun _ => Config.factoryChannel
  budget := Config.factoryBudget
  watches := List.replicate 16 none
  subscriptions := BitVec.allOnes 13
  linkRate := .baud115200

/-- Vendor code, part code and design revision (R176). -/
def Config.vendorCode : Nat := 0x0E21
def Config.partCode : Nat := 0x0108
def Config.revision : Nat := 0x01

/-- The serial number, fixed for each part at manufacture (R155). -/
opaque Config.serialNumber : BitVec 32

/-- The CRC-32 over a generation and the five parts (R124). FREE VALUE: the spec gives neither its polynomial nor the layout
it is computed over (log 11). -/
opaque Config.crc32 : Nat → WorkingConfig → BitVec 32

/-- Whether the reply starts first when a reply and a notice become ready together (R150). FREE VALUE (log 5). -/
opaque Config.replyFirst : Nat → Bool

/-- Uptime at the millisecond boundary after its greatest value (R1). FREE VALUE (log 12). -/
opaque Config.uptimeAfterLast : BitVec 48

/-- The generation a PROFILE_SAVE reports when there is no generation to write (R127). FREE VALUE (log 13). -/
opaque Config.exhaustedGeneration : BitVec 32

/-- The keepalive a PING reports in CLOSED (R157, R161). FREE VALUE (log 10). -/
opaque Config.closedKeepalive : Nat → BitVec 16

/-- Value, over-range and completion stamp of a last average that a WATCH_SET has made not valid (R92). FREE VALUE (log 20). -/
opaque Config.invalidAverage : Nat → BitVec 32 × Bool × BitVec 48

/-- The snapshot stamp that ENERGY_READ and PEAK_READ report while its valid flag is no (R102, R106). FREE VALUE (log 35). -/
opaque Config.invalidSnapshot : Nat → BitVec 48

/-- The due of an entry whose delay ends past the greatest uptime, by the number u + d + 1 that R117 forms. FREE VALUE
(log 36). -/
opaque Config.dueAfterLast : Nat → BitVec 48

/-- What the terminals show in the round of a stamp when nobody outside supplies its readings. FREE VALUE (log 14). -/
opaque Config.roundReadings : Nat → Readings

end Sys2Proof
end

