-- ==== Sys2Proof/Machine/State.lean ====
section
/-! DEFINITION. The state of the part: every piece of state the spec gives its blocks, as plain data, and its value right
after power-on with blank non-volatile storage and the input lines at rest. A timer is `some e` while it runs, with its
expiry uptime e (R1), and `none` while it is stopped. -/

namespace Sys2Proof.Machine

/-- No rule of the spec stops the part, so there is no fault to raise. -/
inductive Fault : Type
deriving DecidableEq, Repr

/-- Why a command has no meaning. -/
inductive Refusal where
  /-- Raised by no arm: every command of the table has its meaning. Raising it would be safe (the model stops). -/
  | notModelled (mnemonic : String)
deriving DecidableEq, Repr

/-- A channel sample record (R70); its channel is its place. -/
structure Sample where
  current : Nat
  overFlag    : Bool
  voltage : Nat
  power   : Nat
  bus     : Nat
  stamp   : Nat
deriving DecidableEq, Repr, Inhabited

/-- The bus sample record (R72). -/
structure BusSample where
  voltage   : Nat
  total     : Nat
  totalOver : Bool
  stamp     : Nat
deriving DecidableEq, Repr, Inhabited

/-- The nine sample records of one round. -/
structure Round where
  samples : PerChan Sample
  bus     : BusSample
deriving DecidableEq, Repr, Inhabited

/-- The comparator record of Protection (R53). -/
structure Comparator where
  armed         : Bool
  threshold     : Nat
  filter        : TripFilter
  filterRunning : Bool
  armingNumber  : Nat
deriving DecidableEq, Repr, Inhabited

/-- The running timer of a channel, with its expiry uptime (R3). -/
inductive ChTimer where
  | none
  | start (expiry : Nat)
  | retryWindow (expiry : Nat)
  | cycle (expiry : Nat)
  | cooldown (expiry : Nat)
deriving DecidableEq, Repr, Inhabited

/-- The channel record (R2, R3) with its gate (R4), its comparator (R53), its latest arrival (R74) and the trip events sent
to it and not yet taken (R55, R67). `cyclePending` holds the request that set it (R18). -/
structure Channel where
  cfg                : ChannelConfig
  state              : ChState
  gate               : Gate
  retryCount         : Nat
  tripTotal          : Nat
  grantStamp         : Nat
  onSince            : Nat
  cyclePending       : Option Nat
  cycleReturnWaiting : Bool
  joinNumber         : Nat
  claimNumber        : Nat
  timer              : ChTimer
  lastOff            : OffReason
  comparator         : Comparator
  latest             : Sample
  trips              : List Nat
deriving DecidableEq, Repr, Inhabited

/-- The phase of a held reservation record (R28). -/
inductive Phase where
  | starting | on | cycleOff
deriving DecidableEq, Repr, Inhabited

/-- A held reservation record (R28); a record that is not held is `none`. -/
structure Reservation where
  amount       : Nat
  cls          : Nat
  grantStamp   : Nat
  phase        : Phase
  slot         : Bool
  grantTaken   : Bool
  claimWaiting : Bool
deriving DecidableEq, Repr, Inhabited

/-- An admission queue entry (R30). -/
structure Waiting where
  chan       : Chan
  cls        : Nat
  allowance  : Nat
  joinStamp  : Nat
  origin     : Origin
  bypass     : Nat
  joinNumber : Nat
deriving DecidableEq, Repr, Inhabited

/-- A cycle-return claim (R38). -/
structure Claim where
  chan   : Chan
  expiry : Nat
  number : Nat
deriving DecidableEq, Repr, Inhabited

/-- A grant sent to a channel and not yet taken or found stale (R36). -/
inductive Grant where
  | queue (c : Chan) (join : Nat)
  | cycleReturn (c : Chan) (claim : Nat)
deriving DecidableEq, Repr, Inhabited

/-- The Budget Manager (chapter 2). `scanDue` is the model's own: a trigger of R33 has come in the event in progress. -/
structure Budget where
  settings    : BudgetSettings
  records     : PerChan (Option Reservation)
  queue       : List Waiting
  nextJoin    : Nat
  claims      : List Claim
  nextClaim   : Nat
  busGood     : Bool
  lastBus     : Option Nat
  shedLevel   : Level
  shedFilter  : Option Nat
  overSum     : Nat
  overCount   : Nat
  overAverage : Nat
  holdTimer   : Option Nat
  grants      : List Grant
  scanDue     : Bool
deriving DecidableEq, Repr, Inhabited

/-- A reporting block in progress (R75). -/
structure Block where
  window     : Nat
  count      : Nat
  currentSum : Nat
  voltageSum : Nat
  powerSum   : Nat
  overFlag       : Bool
deriving DecidableEq, Repr, Inhabited

/-- A reporting result (R76). -/
structure Result where
  valid   : Bool
  window  : Nat
  current : Nat
  voltage : Nat
  power   : Nat
  overFlag    : Bool
  stamp   : Nat
deriving DecidableEq, Repr, Inhabited

/-- The Sampler (chapter 4). `round` is the stamp of the round in progress (R69). -/
structure Sampler where
  round       : Option Nat
  latest      : Round
  latestValid : Bool
  blocks      : PerChan Block
  results     : PerChan Result
deriving DecidableEq, Repr, Inhabited

/-- The round deliveries made and not yet taken, oldest first (R73). -/
structure Deliveries where
  toChannels : PerChan (List Sample)
  toBudget   : List BusSample
  toWatch    : List Round
  toMeter    : List Round
deriving DecidableEq, Repr, Inhabited

/-- The last average of a watch (R84). -/
structure LastAverage where
  valid : Bool
  value : Nat
  overFlag  : Bool
  stamp : Nat
deriving DecidableEq, Repr, Inhabited

/-- A watch record in use: configuration (R83) and running state (R84). -/
structure Watch where
  cfg    : WatchConfig
  level  : WatchLevel
  raised : Bool
  rises  : Nat
  count  : Nat
  sum    : Nat
  overFlag   : Bool
  last   : LastAverage
deriving DecidableEq, Repr, Inhabited

/-- An energy accumulator (R98). -/
structure Accumulator where
  energy      : Nat
  rollover    : Nat
  residue     : Nat
  count       : Nat
  full        : Bool
  overFlag        : Bool
  periodStart : Nat
deriving DecidableEq, Repr, Inhabited

/-- A peak record (R104). -/
structure Peak where
  current      : Nat
  currentStamp : Nat
  currentOver  : Bool
  power        : Nat
  powerStamp   : Nat
  powerOver    : Bool
  periodStart  : Nat
deriving DecidableEq, Repr, Inhabited

/-- The bus minimum record (R105). -/
structure BusMinimum where
  voltage     : Nat
  stamp       : Nat
  periodStart : Nat
deriving DecidableEq, Repr, Inhabited

/-- The Meter (chapter 6). `snapshot` is the stamp of the latest round delivery taken, once there is one (R102). -/
structure Meter where
  energy   : PerChan Accumulator
  peaks    : PerChan Peak
  bus      : BusMinimum
  snapshot : Option Nat
deriving DecidableEq, Repr, Inhabited

/-- A schedule entry (R110). The period is in seconds, 0 for a one-shot entry. -/
structure SchedEntry where
  tag       : Nat
  chan      : Chan
  action    : SchedAction
  due       : Nat
  period    : Nat
  insertion : Nat
  missed    : Nat
deriving DecidableEq, Repr, Inhabited

/-- A copy record (R124). -/
structure CopyRecord where
  valid      : Bool
  generation : Nat
deriving DecidableEq, Repr, Inhabited

/-- The latest save outcome with its copy and generation (R126). -/
structure SaveResult where
  outcome    : SaveOutcome
  copy       : Option CopyId
  generation : Nat
deriving DecidableEq, Repr, Inhabited

/-- The Profile Store (chapter 8). `storeA` and `storeB` are the non-volatile copies; `restartPending` holds the request
that set it (R134). -/
structure Profile where
  storeA         : Option StoredCopy
  storeB         : Option StoredCopy
  recA           : CopyRecord
  recB           : CopyRecord
  current        : Option CopyId
  source         : ProfileSource
  saveState      : SaveState
  target         : Option CopyId
  capture        : Option WorkingConfig
  newGeneration  : Option Nat
  writeFailed    : Bool
  unsaved        : Bool
  outcome        : SaveResult
  restartPending : Option Nat
  resetLevel     : Level
  resetFilter    : Option Nat
deriving DecidableEq, Repr, Inhabited

/-- The receiver (R140): the body bytes gathered so far, in order, and the first check byte once it is taken. -/
inductive Receiver where
  | hunt
  | length
  | body (len : Byte) (got : List Byte)
  | check (len : Byte) (body : List Byte) (first : Option Byte)
deriving DecidableEq, Repr, Inhabited

/-- The form of a request queue entry (R144). -/
inductive ReqForm where
  | new | repeated
deriving DecidableEq, Repr, Inhabited

/-- The phase of a request queue entry (R144). -/
inductive ReqPhase where
  | waiting | answered | sending
deriving DecidableEq, Repr, Inhabited

/-- What must follow a reply (R151). -/
inductive Awaiting where
  | nothing
  | cycle (c : Chan)
  | restart
deriving DecidableEq, Repr, Inhabited

/-- A request queue entry (R144). `id` is the model's own name of the request, by which a signal names it (R18, R151);
`signalWait` is the model's own count of the valid-frame signals to be taken before its dispatch (R159, R169). -/
structure ReqEntry where
  id         : Nat
  kind       : Byte
  seq        : Byte
  crc        : BitVec 16
  payload    : List Byte
  form       : ReqForm
  phase      : ReqPhase
  reply      : List Byte
  awaiting   : Awaiting
  signalWait : Nat
deriving DecidableEq, Repr, Inhabited

/-- A reply list entry (R146). -/
structure KeptReply where
  kind  : Byte
  seq   : Byte
  crc   : BitVec 16
  reply : List Byte
deriving DecidableEq, Repr, Inhabited

/-- The transmitter (R150). A notice frame is stale once a session end has made its notice UNSENT: its notice-sent signal
then has no effect (R162, R166). -/
inductive Tx where
  | idle
  | reply (frame : List Byte)
  | notice (nseq : Nat) (frame : List Byte) (stale : Bool)
deriving DecidableEq, Repr, Inhabited

/-- The five link statistics (R153). -/
structure LinkStats where
  crcErrors           : Nat
  framingAborts       : Nat
  overrunDiscards     : Nat
  duplicatesReplied   : Nat
  duplicatesDiscarded : Nat
deriving DecidableEq, Repr, Inhabited

/-- A reply-sent or reply-discarded signal given and not yet taken (R151). -/
structure ReplySignal where
  target  : Awaiting
  request : Nat
  fate    : ReplyFate
deriving DecidableEq, Repr, Inhabited

/-- The Link Interface (chapter 9). -/
structure Link where
  rateInUse      : LinkRate
  configuredRate : LinkRate
  receiver       : Receiver
  gapTimer       : Option Nat
  breakTimer     : Option Nat
  breakWait      : Bool
  queue          : List ReqEntry
  nextId         : Nat
  replyList      : List KeptReply
  tx             : Tx
  stats          : LinkStats
  validSignals   : Nat
  signals        : List ReplySignal
deriving DecidableEq, Repr, Inhabited

/-- The fields particular to each notice kind (R164, R177); lists of channels are ascending. -/
inductive NoticeBody where
  | channelState (left entered : ChState) (cause : ChangeCause) (reason : OffReason)
  | trip (current : Nat) (overFlag : Bool) (retryCount : Nat) (entered : ChState) (tripTotal : Nat)
  | startFail (current voltage bus retryCount : Nat) (entered : ChState) (tripTotal : Nat)
  | latched (cause : LatchCause) (fault : Option FaultKind) (watch : Option Nat) (left : ChState)
      (retryCount tripTotal : Nat)
  | shed (cause : ShedCause) (left entered : ChState) (cls allowance committed : Nat)
  | overload (average limit : Nat) (noCandidate : Bool)
  | shedLine (level : Level) (shed : List Chan)
  | watch (record : Nat) (direction : Direction) (cfg : WatchConfig) (average : Nat) (overFlag : Bool) (stamp : Nat)
      (status : Option Status) (raised : Bool) (rises : Nat)
  | scheduleFired (tag : Nat) (action : SchedAction) (due : Nat) (status : Status) (after : ChState) (next : Option Nat)
      (missed : Nat)
  | energyFull (energy rollover count : Nat) (overFlag : Bool) (periodStart filling : Nat)
  | profileSaved (outcome : SaveOutcome) (target : Option CopyId) (generation : Nat) (unsaved : Bool)
  | hostLost (keepalive opened latestFrame : Nat) (switchedOff : List (Chan × ChState))
  | restarted (cause : RestartCause) (source : ProfileSource) (generation : Nat)
      (autoStarted held requeued shed : List Chan) (shedLevel : Level)
deriving DecidableEq, Repr, Inhabited

/-- A notice record (R164). `frameWaiting`: its frame is offered to the transmitter and has not started (R150, R166). -/
structure Notice where
  nseq         : Nat
  cls          : NoticeClass
  stamp        : Nat
  chan         : Option Chan
  body         : NoticeBody
  lost         : Nat
  delivery     : Delivery
  frameWaiting : Bool
deriving DecidableEq, Repr, Inhabited

/-- The Notice Unit (chapter 10): session (R157), subscriptions (R163), queue (R165), delivery (R166, R168), ATTN (R170),
and the notice-sent signals given and not yet taken (R150). -/
structure Notices where
  sessionOpen    : Bool
  keepalive      : Nat
  keepaliveTimer : Option Nat
  openedStamp    : Nat
  latestFrame    : Nat
  subscriptions  : BitVec 13
  queue          : List Notice
  nextNseq       : Nat
  lost           : Nat
  ackTimer       : Option Nat
  resend         : Nat
  stalled        : Bool
  attn           : Level
  sentSignals    : List Nat
deriving DecidableEq, Repr, Inhabited

/-- The input lines as they stand: RESET (R133), SHED (R42) and the receive line (R138). -/
structure Pins where
  reset   : Level
  shed    : Level
  receive : LineLevel
deriving DecidableEq, Repr, Inhabited

/-- The whole part, and the commands that wait to reach it. `within` says that time has passed since the latest millisecond
boundary (R1); `draws` is the model's own counter of the free values drawn. -/
structure State where
  powered    : Bool
  uptime     : Nat
  within     : Bool
  draws      : Nat
  pins       : Pins
  chans      : PerChan Channel
  budget     : Budget
  sampler    : Sampler
  deliveries : Deliveries
  watches    : List (Option Watch)
  meter      : Meter
  schedule   : List SchedEntry
  profile    : Profile
  link       : Link
  notices    : Notices
  pending    : List Instr
deriving DecidableEq, Repr, Inhabited

/-- A comparator that has never been armed (R67); threshold and filter are the model's choice (log 6). -/
def Comparator.blank : Comparator where
  armed := false
  threshold := 0
  filter := .long
  filterRunning := false
  armingNumber := 0

/-- A sample record before the first round (R74). -/
def Sample.zero : Sample where
  current := 0
  overFlag := false
  voltage := 0
  power := 0
  bus := 0
  stamp := 0

/-- The sample records before the first round (R74). -/
def Round.zero : Round where
  samples := PerChan.ofFn fun _ => Sample.zero
  bus := { voltage := 0, total := 0, totalOver := false, stamp := 0 }

/-- No round delivery in transit. -/
def Deliveries.empty : Deliveries where
  toChannels := PerChan.ofFn fun _ => []
  toBudget := []
  toWatch := []
  toMeter := []

/-- A DISABLED channel right after power-on (R25, R67, R80). -/
def Channel.reset : Channel where
  cfg := Config.factoryChannel
  state := .disabled
  gate := .off
  retryCount := 0
  tripTotal := 0
  grantStamp := 0
  onSince := 0
  cyclePending := none
  cycleReturnWaiting := false
  joinNumber := 0
  claimNumber := 0
  timer := .none
  lastOff := .none
  comparator := Comparator.blank
  latest := Sample.zero
  trips := []

/-- The machine right after power-on with both profile copies blank and the RESET, SHED and receive lines at rest (log 3):
R25, R51, R80, R96, R108, R120, R126, R132, R137, R156 and R172. -/
def State.reset : State where
  powered := true
  uptime := 0
  within := false
  draws := 0
  pins := { reset := .released, shed := .released, receive := .high }
  chans := PerChan.ofFn fun _ => Channel.reset
  budget :=
    { settings := Config.factoryBudget
      records := PerChan.ofFn fun _ => none
      queue := []
      nextJoin := 0
      claims := []
      nextClaim := 0
      busGood := false
      lastBus := none
      shedLevel := .released
      shedFilter := none
      overSum := 0
      overCount := 0
      overAverage := 0
      holdTimer := none
      grants := []
      scanDue := false }
  sampler :=
    { round := some 0
      latest := Round.zero
      latestValid := false
      blocks := PerChan.ofFn fun _ =>
        { window := 16, count := 0, currentSum := 0, voltageSum := 0, powerSum := 0, overFlag := false }
      results := PerChan.ofFn fun _ =>
        { valid := false, window := 16, current := 0, voltage := 0, power := 0, overFlag := false, stamp := 0 } }
  deliveries := Deliveries.empty
  watches := List.replicate 16 none
  meter :=
    { energy := PerChan.ofFn fun _ =>
        { energy := 0, rollover := 0, residue := 0, count := 0, full := false, overFlag := false, periodStart := 0 }
      peaks := PerChan.ofFn fun _ =>
        { current := 0, currentStamp := 0, currentOver := false, power := 0, powerStamp := 0, powerOver := false
          periodStart := 0 }
      bus := { voltage := 65535, stamp := 0, periodStart := 0 }
      snapshot := none }
  schedule := []
  profile :=
    { storeA := none
      storeB := none
      recA := { valid := false, generation := 0 }
      recB := { valid := false, generation := 0 }
      current := none
      source := .factory
      saveState := .idle
      target := none
      capture := none
      newGeneration := none
      writeFailed := false
      unsaved := true
      outcome := { outcome := .none, copy := none, generation := 0 }
      restartPending := none
      resetLevel := .released
      resetFilter := none }
  link :=
    { rateInUse := .baud115200
      configuredRate := .baud115200
      receiver := .hunt
      gapTimer := none
      breakTimer := none
      breakWait := false
      queue := []
      nextId := 0
      replyList := []
      tx := .idle
      stats :=
        { crcErrors := 0, framingAborts := 0, overrunDiscards := 0, duplicatesReplied := 0, duplicatesDiscarded := 0 }
      validSignals := 0
      signals := [] }
  notices :=
    { sessionOpen := false
      keepalive := 0
      keepaliveTimer := none
      openedStamp := 0
      latestFrame := 0
      subscriptions := BitVec.allOnes 13
      queue :=
        [{ nseq := 0, cls := .urgent, stamp := 0, chan := none
           body := .restarted .powerOn .factory 0 [] [] [] [] .released
           lost := 0, delivery := .unsent, frameWaiting := false }]
      nextNseq := 1
      lost := 0
      ackTimer := none
      resend := 0
      stalled := false
      attn := .asserted
      sentSignals := [] }
  pending := []

end Sys2Proof.Machine
end

