-- ==== Sys2Proof/Machine/Ops.lean ====
section
/-! DEFINITION. The shared operations that every block uses: one block's part of State changed at a time, the time base of
R1, and the condition that the part is supplied. The operations of one block stand in <Block>Ops.lean beside this file. -/

namespace Sys2Proof.Machine

/-- The record of one channel. -/
def State.chan (s : State) (c : Chan) : Channel := s.chans.get c

/-- Change the record of one channel. -/
def State.onChan (s : State) (c : Chan) (f : Channel → Channel) : State := { s with chans := s.chans.update c f }

/-- Change the Budget Manager's state. -/
def State.onBudget (s : State) (f : Budget → Budget) : State := { s with budget := f s.budget }

/-- Change the Profile Store's state. -/
def State.onProfile (s : State) (f : Profile → Profile) : State := { s with profile := f s.profile }

/-- Change the Link Interface's state. -/
def State.onLink (s : State) (f : Link → Link) : State := { s with link := f s.link }

/-- Change the Notice Unit's state. -/
def State.onNotices (s : State) (f : Notices → Notices) : State := { s with notices := f s.notices }

/-- Time has passed since the latest millisecond boundary: the events of the line, of the rounds and of the comparators are
taken after it (log 4). -/
def State.afterBoundary (s : State) : State := { s with within := true }

/-- The expiry uptime of a timer of `d` ms started now: the first millisecond boundary at or after `d` ms (R1). -/
def State.deadline (s : State) (d : Nat) : Nat := s.uptime + d + if s.within then 1 else 0

/-- A running timer has reached its expiry uptime. -/
def due (timer : Option Nat) (now : Nat) : Bool :=
  match timer with
  | some e => decide (e ≤ now)
  | none => false

/-- The time a timer still has to run, in whole milliseconds, 0 when stopped (R24, R50, R161). -/
def remaining (timer : Option Nat) (now : Nat) : Nat :=
  match timer with
  | some e => e - now
  | none => 0

/-- The uptime stamp one millisecond boundary later; uptime is a 48-bit count and the spec does not say what follows its
greatest value (log 12). -/
def nextUptime (u : Nat) : Nat := if u + 1 < 2 ^ 48 then u + 1 else Config.uptimeAfterLast.toNat

/-- An event of the part: it has its effect while the logic supply is applied, and nothing happens without it (log 3). -/
def live (f : State → State) (s : State) : Host.Outcome State Fault Refusal := .next (if s.powered then f s else s)

/-- The expiry uptime of a channel's running timer, when there is one. -/
def ChTimer.expiry : ChTimer → Option Nat
  | .none => Option.none
  | .start e => some e
  | .retryWindow e => some e
  | .cycle e => some e
  | .cooldown e => some e

/-- The length of the SHED filter timer, in ms (R42). -/
def shedFilterTime : Nat := 2

/-- The length of the RESET filter timer, in ms (R133). -/
def resetFilterTime : Nat := 1

/-- A line filter (R42, R133): the filter timer after the line has taken `line`, against the filtered level. It starts when
the line differs from the filtered level, runs on while it does, and is cancelled when the line is back. -/
def filterAfter (filtered line : Level) (timer : Option Nat) (start : Nat) : Option Nat :=
  if line = filtered then none else some (timer.getD start)

end Sys2Proof.Machine
end

