-- ==== Sys2Proof/Machine/Flags.lean ====
section
/-! DEFINITION. The flags and comparisons of the rules: over-range, the good-level test, bus good, overload, the level and
raised flag of a watch, ATTN, and the ranges of R2 and R27. -/

namespace Sys2Proof.Machine

/-- Full scale of a current reading and of a voltage reading (R70). -/
def fullCurrent : Nat := 32767
def fullVoltage : Nat := 65535

/-- A current at or above full scale is over-range (R70). -/
def overRange (current : Nat) : Bool := decide (fullCurrent ≤ current)

/-- The power of a channel sample in mW (R71): the exact product, divided by 1,000. -/
def samplePower (current voltage : Nat) : Nat := current * voltage / 1000

/-- The bus is good: its voltage is at or above the bus minimum (R29). -/
def busGoodFlag (voltage minimum : Nat) : Bool := decide (minimum ≤ voltage)

/-- The good-level test of R15, exactly, in whole millivolts. -/
def goodLevelMet (goodLevel busMinimum output bus : Nat) : Bool :=
  decide (goodLevel * bus ≤ output * 100) && busGoodFlag bus busMinimum

/-- The block average is above the budget limit (R46). -/
def overloaded (average limit : Nat) : Bool := decide (limit * 1000 < average)

/-- The level of a watch after a completed block (R87). -/
def watchLevelAfter (cfg : WatchConfig) (level : WatchLevel) (average : Nat) (overFlag : Bool) : WatchLevel :=
  if overFlag then .high
  else if cfg.upper < average then .high
  else if average < cfg.lower then .low
  else level

/-- The raised flag after WATCH_CLEAR (R94). -/
def raisedAfterClear (mode : FlagMode) (level : WatchLevel) : Bool := decide (mode = .live ∧ level = .high)

/-- ATTN is asserted if and only if the queue holds an urgent notice (R170). -/
def attnLevel (queue : List Notice) : Level := if queue.any (fun n => n.cls == .urgent) then .asserted else .released

/-- Every field of a channel configuration is in its range, and the trip current is at least the start current (R2, R175). -/
def channelConfigInRange (k : ChannelConfig) : Bool :=
  decide (k.cls ≤ 3) && decide (1 ≤ k.allowance ∧ k.allowance ≤ 1000)
    && decide (100 ≤ k.startCurrent ∧ k.startCurrent ≤ 10000) && decide (1 ≤ k.startTime ∧ k.startTime ≤ 1000)
    && decide (80 ≤ k.goodLevel ∧ k.goodLevel ≤ 98) && decide (100 ≤ k.tripCurrent ∧ k.tripCurrent ≤ 32000)
    && decide (k.startCurrent ≤ k.tripCurrent) && decide (10 ≤ k.cooldown ∧ k.cooldown ≤ 60000)
    && decide (k.retryLimit ≤ 7) && decide (1 ≤ k.retryWindow ∧ k.retryWindow ≤ 600)
    && decide (100 ≤ k.cycleTime ∧ k.cycleTime ≤ 60000) && [1, 2, 4, 8, 16, 32, 64, 128].contains k.reportWindow

/-- Every budget setting is in its range (R27). -/
def budgetSettingsInRange (b : BudgetSettings) : Bool :=
  decide (1 ≤ b.limit ∧ b.limit ≤ 4000) && decide (b.bypassLimit ≤ 15) && decide (1 ≤ b.slots ∧ b.slots ≤ 4)
    && decide (10 ≤ b.overloadHold ∧ b.overloadHold ≤ 5000) && decide (9000 ≤ b.busMinimum ∧ b.busMinimum ≤ 60000)

/-- The greatest value of a watch's quantity, which bounds its thresholds; none where the source has no such quantity
(R83, R85). -/
def watchRange : WatchSource → Quantity → Option Nat
  | .chan _, .current => some 32767
  | .chan _, .voltage => some 65535
  | .chan _, .power => some 2147385
  | .bus, .voltage => some 65535
  | .total, .power => some 17179080
  | .bus, .current => none
  | .bus, .power => none
  | .total, .current => none
  | .total, .voltage => none

/-- The conditions of R92 and R175 on a watch configuration: window, quantity, thresholds. -/
def watchConfigInRange (w : WatchConfig) : Bool :=
  decide (1 ≤ w.window ∧ w.window ≤ 128)
    && (match watchRange w.source w.quantity with
        | some top => decide (w.upper ≤ top ∧ w.lower ≤ top)
        | none => false)
    && decide (w.lower ≤ w.upper)

end Sys2Proof.Machine
end

