-- ==== Sys2Proof/Machine/Operands.lean ====
section
/-! DEFINITION. Chapter 11: the encoding of every field, the check code of a frame (R142), the layout of every request
payload with its BAD_FIELD conditions (R173 to R175), and the layout of every entry, block and notice frame (R176, R177). -/

namespace Sys2Proof.Machine

/-- A field of `size` bytes, most significant byte first (R173). -/
def be : Nat → Nat → List Byte
  | 0, _ => []
  | size + 1, v => BitVec.ofNat 8 (v / 256 ^ size) :: be size v

/-- The number that bytes give, most significant byte first (R173). -/
def readBe (bytes : List Byte) : Nat := bytes.foldl (fun acc b => acc * 256 + b.toNat) 0

/-- The field of `size` bytes at position `at` of a payload. -/
def field (payload : List Byte) (pos size : Nat) : Nat := readBe ((payload.drop pos).take size)

/-- The bits of a flags byte or of a mask, bit 0 first (R173). -/
def flagBits : List Bool → Nat
  | [] => 0
  | b :: rest => b.toNat + 2 * flagBits rest

/-- A yes/no field as sent (R173). -/
def yesNo (b : Bool) : Nat := b.toNat

/-- A yes/no field as received: a byte above 1 is out of range (R173). -/
def yesNo? : Nat → Option Bool
  | 0 => some false
  | 1 => some true
  | _ => none

/-- A channel mask as sent: bit n stands for CHn (R173). -/
def maskOf (cs : List Chan) : Nat := flagBits (Chan.all.map fun c => cs.contains c)

/-- The channels of a mask as received, ascending. -/
def chansOfMask (m : Nat) : List Chan := Chan.all.filter fun c => m.testBit c.toNat

/-- The records of a watch record set as received, ascending (R173). -/
def recordsOfSet (m : Nat) : List Nat := (List.range 16).filter fun n => m.testBit n

/-- A channel field that may be absent (R173). -/
def chanCode? : Option Chan → Nat
  | some c => c.toNat
  | none => 0xFF

end Sys2Proof.Machine

namespace Sys2Proof

/-! The codes of para 11.4. -/

def ChState.code : ChState → Nat
  | .disabled => 0 | .off => 1 | .queued => 2 | .starting => 3 | .on => 4 | .cycleOff => 5 | .cooldown => 6 | .latched => 7

def Origin.code : Origin → Nat
  | .host => 0 | .schedule => 1 | .watch => 2 | .session => 3 | .profile => 4 | .restart => 5 | .retry => 6 | .requeue => 7

def OffReason.code : OffReason → Nat
  | .none => 0 | .host => 1 | .schedule => 2 | .trip => 3 | .startFail => 4 | .shedBudget => 5 | .shedOverload => 6
  | .shedLine => 7 | .watch => 8 | .hostLoss => 9 | .restart => 10 | .budget => 11

def TripFilter.code : TripFilter → Nat
  | .short => 0 | .long => 1

def TripFilter.ofCode? : Nat → Option TripFilter
  | 0 => some .short
  | 1 => some .long
  | _ => none

def HostLossPolicy.code : HostLossPolicy → Nat
  | .hold => 0 | .switchOff => 1

def HostLossPolicy.ofCode? : Nat → Option HostLossPolicy
  | 0 => some .hold
  | 1 => some .switchOff
  | _ => none

def AfterShed.code : AfterShed → Nat
  | .requeue => 0 | .stayOff => 1

def AfterShed.ofCode? : Nat → Option AfterShed
  | 0 => some .requeue
  | 1 => some .stayOff
  | _ => none

def ChangeCause.code : ChangeCause → Nat
  | .grant => 0 | .cycleReturn => 1 | .up => 2 | .cycleBegin => 3 | .retry => 4 | .budget => 5

def ShedCause.code : ShedCause → Nat
  | .budget => 0 | .line => 1 | .overload => 2

def Level.code : Level → Nat
  | .released => 0 | .asserted => 1

def LatchCause.code : LatchCause → Nat
  | .retriesExhausted => 0 | .watch => 1

def FaultKind.code : FaultKind → Nat
  | .trip => 0 | .startFail => 1

def WatchSource.code : WatchSource → Nat
  | .chan c => c.toNat
  | .bus => 8
  | .total => 9

def WatchSource.ofCode? (n : Nat) : Option WatchSource :=
  if n = 8 then some .bus else if n = 9 then some .total else (Chan.ofNat? n).map .chan

def Quantity.code : Quantity → Nat
  | .current => 0 | .voltage => 1 | .power => 2

def Quantity.ofCode? : Nat → Option Quantity
  | 0 => some .current
  | 1 => some .voltage
  | 2 => some .power
  | _ => none

def FlagMode.code : FlagMode → Nat
  | .latched => 0 | .live => 1

def FlagMode.ofCode? : Nat → Option FlagMode
  | 0 => some .latched
  | 1 => some .live
  | _ => none

def WatchAction.code : WatchAction → Nat
  | .notify => 0 | .switchOff _ => 1 | .latch _ => 2

/-- The target of a watch action, absent for NOTIFY (R83). -/
def WatchAction.target? : WatchAction → Option Chan
  | .notify => none
  | .switchOff c => some c
  | .latch c => some c

/-- Action and target as received: NOTIFY has no target, SWITCH_OFF and LATCH have one (R92, R175). -/
def WatchAction.ofCodes? (action target : Nat) : Option WatchAction :=
  match action with
  | 0 => if target = 0xFF then some .notify else none
  | 1 => (Chan.ofNat? target).map .switchOff
  | 2 => (Chan.ofNat? target).map .latch
  | _ => none

def Direction.code : Direction → Nat
  | .rise => 0 | .fall => 1

def SchedAction.code : SchedAction → Nat
  | .on => 0 | .off => 1 | .cycle => 2

def SchedAction.ofCode? : Nat → Option SchedAction
  | 0 => some .on
  | 1 => some .off
  | 2 => some .cycle
  | _ => none

def TimingForm.ofCode? : Nat → Option TimingForm
  | 0 => some .delay
  | 1 => some .absolute
  | _ => none

def LinkRate.code : LinkRate → Nat
  | .baud9600 => 0 | .baud57600 => 1 | .baud115200 => 2 | .baud460800 => 3

def LinkRate.ofCode? : Nat → Option LinkRate
  | 0 => some .baud9600
  | 1 => some .baud57600
  | 2 => some .baud115200
  | 3 => some .baud460800
  | _ => none

def copyCode? : Option CopyId → Nat
  | some .a => 0
  | some .b => 1
  | none => 2

def ProfileSource.code : ProfileSource → Nat
  | .a => 0 | .b => 1 | .factory => 2

def SaveState.code : SaveState → Nat
  | .idle => 0 | .writing => 1 | .verifying => 2

def SaveOutcome.code : SaveOutcome → Nat
  | .none => 0 | .ok => 1 | .writeFail => 2

def RestartCause.code : RestartCause → Nat
  | .powerOn => 0 | .resetLine => 1 | .restartRequest => 2

def NoticeClass.code : NoticeClass → Nat
  | .routine => 0 | .urgent => 1

/-- The status codes of R176. -/
def Status.code : Status → Nat
  | .ok => 0x00 | .started => 0x01 | .already => 0x02 | .unknownKind => 0x10 | .badLength => 0x11 | .badField => 0x12
  | .noSession => 0x13 | .sessionActive => 0x15 | .notConfigured => 0x20 | .inUse => 0x21 | .latched => 0x22
  | .cooling => 0x23 | .busy => 0x24 | .notOn => 0x25 | .tooLarge => 0x26 | .budgetInUse => 0x27 | .slotsInUse => 0x28
  | .listFull => 0x30 | .noSuchTag => 0x31 | .duplicateTag => 0x32 | .noSuchWatch => 0x33 | .notInFlight => 0x34
  | .profileBusy => 0x40

/-- The place of a kind: its bit in the subscription set, and its KIND less 0x40. -/
def NoticeKind.index : NoticeKind → Nat
  | .channelState => 0 | .trip => 1 | .startFail => 2 | .latched => 3 | .shed => 4 | .overload => 5 | .shedLine => 6
  | .watch => 7 | .scheduleFired => 8 | .energyFull => 9 | .profileSaved => 10 | .hostLost => 11 | .restarted => 12

end Sys2Proof

namespace Sys2Proof.Machine

def ChTimer.code : ChTimer → Nat
  | .none => 0 | .start _ => 1 | .retryWindow _ => 2 | .cycle _ => 3 | .cooldown _ => 4

/-- The status field of a notice, 0xFF where it reports none (R176). -/
def statusCode? : Option Status → Nat
  | some s => s.code
  | none => 0xFF

/-! Frames (R142, R173). -/

/-- One bit of the CRC-16, polynomial 0x1021, most significant bit first. -/
def crcBit (crc : BitVec 16) : BitVec 16 := if crc.msb then (crc <<< 1) ^^^ 0x1021#16 else crc <<< 1

/-- One byte of the CRC-16. -/
def crcByte (crc : BitVec 16) (b : Byte) : BitVec 16 :=
  crcBit (crcBit (crcBit (crcBit (crcBit (crcBit (crcBit (crcBit (crc ^^^ (b.setWidth 16 <<< 8)))))))))

/-- The CRC-16 of R142: initial value 0xFFFF, no reflection and no final inversion. -/
def crc16 (bytes : List Byte) : BitVec 16 := bytes.foldl crcByte 0xFFFF#16

/-- A whole frame: SYNC, LEN, KIND, SEQ, payload and the two check bytes, high byte first (para 11.1). -/
def frame (kind seq : Byte) (payload : List Byte) : List Byte :=
  let checked := BitVec.ofNat 8 (payload.length + 2) :: kind :: seq :: payload
  0xA5#8 :: checked ++ be 2 (crc16 checked).toNat

/-! Request kinds (R174). -/

/-- The assigned request kinds. -/
inductive ReqKind where
  | identify | linkStatus | linkConfig | sessionOpen | sessionClose | ping | noticeAck | subscribe | channelConfig
  | channelQuery | channelOn | channelOff | channelCycle | channelClear | budgetConfig | budgetQuery | measureRead
  | energyRead | peakRead | watchSet | watchDelete | watchClear | watchQuery | schedAdd | schedCancel | schedList
  | profileSave | profileQuery | restart
deriving DecidableEq, Repr, Inhabited

/-- The KIND value (R174). -/
def ReqKind.code : ReqKind → Byte
  | .identify => 0x01 | .linkStatus => 0x02 | .linkConfig => 0x03 | .sessionOpen => 0x08 | .sessionClose => 0x09
  | .ping => 0x0A | .noticeAck => 0x0B | .subscribe => 0x0C | .channelConfig => 0x10 | .channelQuery => 0x11
  | .channelOn => 0x12 | .channelOff => 0x13 | .channelCycle => 0x14 | .channelClear => 0x15 | .budgetConfig => 0x18
  | .budgetQuery => 0x19 | .measureRead => 0x20 | .energyRead => 0x21 | .peakRead => 0x22 | .watchSet => 0x28
  | .watchDelete => 0x29 | .watchClear => 0x2A | .watchQuery => 0x2B | .schedAdd => 0x30 | .schedCancel => 0x31
  | .schedList => 0x32 | .profileSave => 0x38 | .profileQuery => 0x39 | .restart => 0x3F

/-- The payload length (R174). -/
def ReqKind.length : ReqKind → Nat
  | .identify => 0 | .linkStatus => 1 | .linkConfig => 1 | .sessionOpen => 2 | .sessionClose => 0 | .ping => 0
  | .noticeAck => 2 | .subscribe => 2 | .channelConfig => 24 | .channelQuery => 1 | .channelOn => 1 | .channelOff => 1
  | .channelCycle => 1 | .channelClear => 1 | .budgetConfig => 9 | .budgetQuery => 0 | .measureRead => 1 | .energyRead => 2
  | .peakRead => 2 | .watchSet => 15 | .watchDelete => 1 | .watchClear => 1 | .watchQuery => 2 | .schedAdd => 15
  | .schedCancel => 2 | .schedList => 1 | .profileSave => 0 | .profileQuery => 0 | .restart => 0

/-- Every assigned request kind. -/
def ReqKind.all : List ReqKind :=
  [.identify, .linkStatus, .linkConfig, .sessionOpen, .sessionClose, .ping, .noticeAck, .subscribe, .channelConfig,
   .channelQuery, .channelOn, .channelOff, .channelCycle, .channelClear, .budgetConfig, .budgetQuery, .measureRead,
   .energyRead, .peakRead, .watchSet, .watchDelete, .watchClear, .watchQuery, .schedAdd, .schedCancel, .schedList,
   .profileSave, .profileQuery, .restart]

/-- The assigned request kind of a KIND byte (R174). -/
def ReqKind.ofCode? (kind : Byte) : Option ReqKind := ReqKind.all.find? fun k => k.code == kind

/-- Whether a request needs an OPEN session (R148); a clear or restart bit makes a read need one (R154, R101, R106). -/
def ReqKind.needsSession (k : ReqKind) (payload : List Byte) : Bool :=
  match k with
  | .identify | .sessionOpen | .ping | .channelQuery | .budgetQuery | .measureRead | .profileQuery | .watchQuery
  | .schedList => false
  | .linkStatus => (field payload 0 1).testBit 0
  | .energyRead => (field payload 1 1).testBit 0
  | .peakRead => (field payload 1 1).testBit 1
  | .linkConfig | .sessionClose | .noticeAck | .subscribe | .channelConfig | .channelOn | .channelOff | .channelCycle
  | .channelClear | .budgetConfig | .watchSet | .watchDelete | .watchClear | .schedAdd | .schedCancel | .profileSave
  | .restart => true

/-! Request payloads (para 11.2.1) with the BAD_FIELD conditions of R173 and R175: `none` is BAD_FIELD. -/

/-- A flags byte with `named` named bits: an unnamed bit set is out of range (R173). -/
def parseFlags (named v : Nat) : Option Nat := if v < 2 ^ named then some v else none

/-- Requests without a field. -/
def parseNothing (_ : List Byte) : Option Unit := some ()

/-- LINK_STATUS: bit 0 clear. -/
def parseLinkStatus (p : List Byte) : Option Bool := (parseFlags 1 (field p 0 1)).map (·.testBit 0)

/-- LINK_CONFIG: a link rate code. -/
def parseLinkConfig (p : List Byte) : Option LinkRate := LinkRate.ofCode? (field p 0 1)

/-- SESSION_OPEN: a keepalive of 0 or 100 to 60,000 ms. -/
def parseSessionOpen (p : List Byte) : Option Nat :=
  let k := field p 0 2
  if k = 0 ∨ (100 ≤ k ∧ k ≤ 60000) then some k else none

/-- NOTICE_ACK and SCHED_CANCEL: a number of two bytes, any value. -/
def parseNumber (p : List Byte) : Option Nat := some (field p 0 2)

/-- SUBSCRIBE: bits 13 to 15 are not set. -/
def parseSubscribe (p : List Byte) : Option (BitVec 13) :=
  (parseFlags 13 (field p 0 2)).map (BitVec.ofNat 13)

/-- The channel of CHANNEL_ON, CHANNEL_OFF, CHANNEL_CYCLE and CHANNEL_CLEAR, 0 to 7. -/
def parseChan (p : List Byte) : Option Chan := Chan.ofNat? (field p 0 1)

/-- The channel configuration block (23 bytes). -/
def parseChannelBlock (p : List Byte) : Option ChannelConfig := do
  let enabled ← yesNo? (field p 0 1)
  let tripFilter ← TripFilter.ofCode? (field p 11 1)
  let hostLoss ← HostLossPolicy.ofCode? (field p 19 1)
  let autoStart ← yesNo? (field p 20 1)
  let afterShed ← AfterShed.ofCode? (field p 21 1)
  let k : ChannelConfig :=
    { enabled := enabled, cls := field p 1 1, allowance := field p 2 2, startCurrent := field p 4 2
      startTime := field p 6 2, goodLevel := field p 8 1, tripCurrent := field p 9 2, tripFilter := tripFilter
      cooldown := field p 12 2, retryLimit := field p 14 1, retryWindow := field p 15 2, cycleTime := field p 17 2
      hostLoss := hostLoss, autoStart := autoStart, afterShed := afterShed, reportWindow := field p 22 1 }
  if channelConfigInRange k then some k else none

/-- CHANNEL_CONFIG: a channel and its configuration block. -/
def parseChannelConfig (p : List Byte) : Option (Chan × ChannelConfig) := do
  let c ← Chan.ofNat? (field p 0 1)
  let k ← parseChannelBlock (p.drop 1)
  some (c, k)

/-- MEASURE_READ: any channel mask. -/
def parseMask (p : List Byte) : Option (List Chan) := some (chansOfMask (field p 0 1))

/-- CHANNEL_QUERY: a mask of at most 5 channels. -/
def parseChannelQuery (p : List Byte) : Option (List Chan) :=
  let cs := chansOfMask (field p 0 1)
  if cs.length ≤ 5 then some cs else none

/-- BUDGET_CONFIG: the five settings, and bit 0 FORCE. -/
def parseBudgetConfig (p : List Byte) : Option (BudgetSettings × Bool) := do
  let b : BudgetSettings :=
    { limit := field p 0 2, bypassLimit := field p 2 1, slots := field p 3 1, overloadHold := field p 4 2
      busMinimum := field p 6 2 }
  let flags ← parseFlags 1 (field p 8 1)
  if budgetSettingsInRange b then some (b, flags.testBit 0) else none

/-- ENERGY_READ: a mask, and bit 0 restart. -/
def parseEnergyRead (p : List Byte) : Option (List Chan × Bool) :=
  (parseFlags 1 (field p 1 1)).map fun f => (chansOfMask (field p 0 1), f.testBit 0)

/-- PEAK_READ: a mask, bit 0 bus and bit 1 clear. -/
def parsePeakRead (p : List Byte) : Option (List Chan × Bool × Bool) :=
  (parseFlags 2 (field p 1 1)).map fun f => (chansOfMask (field p 0 1), f.testBit 0, f.testBit 1)

/-- A watch record number, 0 to 15. -/
def parseRecord (p : List Byte) : Option Nat :=
  let n := field p 0 1
  if n ≤ 15 then some n else none

/-- The watch configuration block (14 bytes). -/
def parseWatchBlock (p : List Byte) : Option WatchConfig := do
  let source ← WatchSource.ofCode? (field p 0 1)
  let quantity ← Quantity.ofCode? (field p 1 1)
  let mode ← FlagMode.ofCode? (field p 11 1)
  let action ← WatchAction.ofCodes? (field p 12 1) (field p 13 1)
  let w : WatchConfig :=
    { source := source, quantity := quantity, window := field p 2 1, upper := field p 3 4, lower := field p 7 4
      mode := mode, action := action }
  if watchConfigInRange w then some w else none

/-- WATCH_SET: a record number and its configuration block. -/
def parseWatchSet (p : List Byte) : Option (Nat × WatchConfig) := do
  let n ← parseRecord p
  let w ← parseWatchBlock (p.drop 1)
  some (n, w)

/-- WATCH_QUERY: a set of at most 8 records. -/
def parseWatchQuery (p : List Byte) : Option (List Nat) :=
  let ns := recordsOfSet (field p 0 2)
  if ns.length ≤ 8 then some ns else none

/-- The fields of SCHED_ADD (R116). -/
structure SchedAddFields where
  tag    : Nat
  chan   : Chan
  action : SchedAction
  period : Nat
  form   : TimingForm
  time   : Nat
deriving DecidableEq, Repr, Inhabited

/-- SCHED_ADD: period 0 to 86,400 s; a DELAY of at most 4,294,967,295 ms. -/
def parseSchedAdd (p : List Byte) : Option SchedAddFields := do
  let c ← Chan.ofNat? (field p 2 1)
  let action ← SchedAction.ofCode? (field p 3 1)
  let form ← TimingForm.ofCode? (field p 8 1)
  let f : SchedAddFields :=
    { tag := field p 0 2, chan := c, action := action, period := field p 4 4, form := form, time := field p 9 6 }
  if f.period ≤ 86400 ∧ (f.form = .delay → f.time ≤ 4294967295) then some f else none

/-- SCHED_LIST: a first position, 0 to 31. -/
def parseSchedList (p : List Byte) : Option Nat :=
  let n := field p 0 1
  if n ≤ 31 then some n else none

/-! Blocks and entries (para 11.2.1, para 11.5.1). -/

/-- The channel configuration block (23 bytes). -/
def channelBlock (k : ChannelConfig) : List Byte :=
  be 1 (yesNo k.enabled) ++ be 1 k.cls ++ be 2 k.allowance ++ be 2 k.startCurrent ++ be 2 k.startTime ++ be 1 k.goodLevel
    ++ be 2 k.tripCurrent ++ be 1 (TripFilter.code k.tripFilter) ++ be 2 k.cooldown ++ be 1 k.retryLimit
    ++ be 2 k.retryWindow ++ be 2 k.cycleTime ++ be 1 (HostLossPolicy.code k.hostLoss) ++ be 1 (yesNo k.autoStart)
    ++ be 1 (AfterShed.code k.afterShed) ++ be 1 k.reportWindow

/-- The budget settings block (8 bytes). -/
def budgetBlock (b : BudgetSettings) : List Byte :=
  be 2 b.limit ++ be 1 b.bypassLimit ++ be 1 b.slots ++ be 2 b.overloadHold ++ be 2 b.busMinimum

/-- The watch configuration block (14 bytes). -/
def watchBlock (w : WatchConfig) : List Byte :=
  be 1 (WatchSource.code w.source) ++ be 1 (Quantity.code w.quantity) ++ be 1 w.window ++ be 4 w.upper ++ be 4 w.lower
    ++ be 1 (FlagMode.code w.mode) ++ be 1 (WatchAction.code w.action) ++ be 1 (chanCode? (WatchAction.target? w.action))

/-- A channel record (47 bytes), read at uptime `now` (R24). -/
def channelRecord (now : Nat) (c : Chan) (k : Channel) : List Byte :=
  be 1 c.toNat ++ channelBlock k.cfg ++ be 1 (ChState.code k.state)
    ++ be 1 (flagBits [k.cyclePending.isSome, k.cycleReturnWaiting]) ++ be 1 k.retryCount ++ be 2 k.tripTotal
    ++ be 6 k.grantStamp ++ be 6 k.onSince ++ be 1 (OffReason.code k.lastOff) ++ be 1 (ChTimer.code k.timer)
    ++ be 4 (remaining k.timer.expiry now)

/-- An admission queue entry (12 bytes). -/
def waitingEntry (e : Waiting) : List Byte :=
  be 1 e.chan.toNat ++ be 1 e.cls ++ be 2 e.allowance ++ be 6 e.joinStamp ++ be 1 (Origin.code e.origin) ++ be 1 e.bypass

/-- A channel result (17 bytes). -/
def resultEntry (c : Chan) (r : Result) : List Byte :=
  be 1 c.toNat ++ be 1 (flagBits [r.valid, r.overFlag]) ++ be 1 r.window ++ be 2 r.current ++ be 2 r.voltage ++ be 4 r.power
    ++ be 6 r.stamp

/-- An energy entry (17 bytes). -/
def energyEntry (c : Chan) (a : Accumulator) : List Byte :=
  be 1 c.toNat ++ be 4 a.energy ++ be 2 a.rollover ++ be 3 a.count ++ be 1 (flagBits [a.full, a.overFlag]) ++ be 6 a.periodStart

/-- A peak entry (26 bytes). -/
def peakEntry (c : Chan) (p : Peak) : List Byte :=
  be 1 c.toNat ++ be 1 (flagBits [p.currentOver, p.powerOver]) ++ be 2 p.current ++ be 6 p.currentStamp ++ be 4 p.power
    ++ be 6 p.powerStamp ++ be 6 p.periodStart

/-- A watch entry: 2 bytes for a free record, 29 for one in use (R95). -/
def watchEntry (n : Nat) : Option Watch → List Byte
  | none => be 1 n ++ be 1 0
  | some w =>
    be 1 n ++ be 1 (flagBits [true, w.level == .high, w.raised, w.last.valid, w.last.overFlag]) ++ watchBlock w.cfg
      ++ be 2 w.rises ++ be 1 w.count ++ be 4 w.last.value ++ be 6 w.last.stamp

/-- A schedule entry (21 bytes). -/
def schedEntry (e : SchedEntry) : List Byte :=
  be 2 e.tag ++ be 1 e.chan.toNat ++ be 1 (SchedAction.code e.action) ++ be 6 e.due ++ be 4 e.period ++ be 6 e.insertion
    ++ be 1 e.missed

/-! Notices (R163, R164, R177). -/

/-- The kind of a notice. -/
def NoticeBody.kind : NoticeBody → NoticeKind
  | .channelState .. => .channelState
  | .trip .. => .trip
  | .startFail .. => .startFail
  | .latched .. => .latched
  | .shed .. => .shed
  | .overload .. => .overload
  | .shedLine .. => .shedLine
  | .watch .. => .watch
  | .scheduleFired .. => .scheduleFired
  | .energyFull .. => .energyFull
  | .profileSaved .. => .profileSaved
  | .hostLost .. => .hostLost
  | .restarted .. => .restarted

/-- The class of a notice (the table of para 10.4.1); a WATCH notice is routine only for action NOTIFY (R91). -/
def NoticeBody.cls : NoticeBody → NoticeClass
  | .channelState .. => .routine
  | .trip .. => .urgent
  | .startFail .. => .urgent
  | .latched .. => .urgent
  | .shed .. => .urgent
  | .overload .. => .urgent
  | .shedLine .. => .routine
  | .watch _ _ cfg _ _ _ _ _ _ => if cfg.action = .notify then .routine else .urgent
  | .scheduleFired .. => .routine
  | .energyFull .. => .routine
  | .profileSaved .. => .routine
  | .hostLost .. => .urgent
  | .restarted .. => .urgent

/-- The fields after the header (the table of R177). -/
def NoticeBody.fields : NoticeBody → List Byte
  | .channelState left entered cause reason =>
    be 1 (ChState.code left) ++ be 1 (ChState.code entered) ++ be 1 (ChangeCause.code cause) ++ be 1 (OffReason.code reason)
  | .trip current overFlag retryCount entered tripTotal =>
    be 2 current ++ be 1 (flagBits [overFlag]) ++ be 1 retryCount ++ be 1 (ChState.code entered) ++ be 2 tripTotal
  | .startFail current voltage bus retryCount entered tripTotal =>
    be 2 current ++ be 2 voltage ++ be 2 bus ++ be 1 retryCount ++ be 1 (ChState.code entered) ++ be 2 tripTotal
  | .latched cause fault record left retryCount tripTotal =>
    be 1 (LatchCause.code cause) ++ be 1 ((fault.map FaultKind.code).getD 0xFF) ++ be 1 (record.getD 0xFF)
      ++ be 1 (ChState.code left) ++ be 1 retryCount ++ be 2 tripTotal
  | .shed cause left entered cls allowance committed =>
    be 1 (ShedCause.code cause) ++ be 1 (ChState.code left) ++ be 1 (ChState.code entered) ++ be 1 cls ++ be 2 allowance
      ++ be 2 committed
  | .overload average limit noCandidate => be 4 average ++ be 2 limit ++ be 1 (flagBits [noCandidate])
  | .shedLine level cs => be 1 (Level.code level) ++ be 1 (maskOf cs)
  | .watch record direction cfg average overFlag stamp status raised rises =>
    be 1 record ++ be 1 (Direction.code direction) ++ be 1 (WatchSource.code cfg.source) ++ be 1 (Quantity.code cfg.quantity)
      ++ be 4 average ++ be 1 (flagBits [overFlag, raised]) ++ be 6 stamp ++ be 4 cfg.upper ++ be 4 cfg.lower
      ++ be 1 (WatchAction.code cfg.action) ++ be 1 (statusCode? status) ++ be 2 rises
  | .scheduleFired tag action due status after next missed =>
    be 2 tag ++ be 1 (SchedAction.code action) ++ be 6 due ++ be 1 (Status.code status) ++ be 1 (ChState.code after)
      ++ be 1 (flagBits [next.isSome]) ++ be 6 (next.getD 0) ++ be 1 missed
  | .energyFull energy rollover count overFlag periodStart filling =>
    be 4 energy ++ be 2 rollover ++ be 3 count ++ be 1 (flagBits [overFlag]) ++ be 6 periodStart ++ be 6 filling
  | .profileSaved outcome target generation unsaved =>
    be 1 (SaveOutcome.code outcome) ++ be 1 (copyCode? target) ++ be 4 generation ++ be 1 (yesNo unsaved)
  | .hostLost keepalive opened latestFrame switchedOff =>
    be 2 keepalive ++ be 6 opened ++ be 6 latestFrame ++ be 1 (maskOf (switchedOff.map Prod.fst))
      ++ switchedOff.flatMap fun x => be 1 (ChState.code x.2)
  | .restarted cause source generation autoStarted held requeued cs shedLevel =>
    be 1 (RestartCause.code cause) ++ be 1 (ProfileSource.code source) ++ be 4 generation ++ be 1 (maskOf autoStarted)
      ++ be 1 (maskOf held) ++ be 1 (maskOf requeued) ++ be 1 (maskOf cs) ++ be 1 (Level.code shedLevel)

/-- The frame of a notice: header NSEQ, class, lost, stamp and channel, then the kind's fields; SEQ is 0 (R177). -/
def noticeFrame (n : Notice) : List Byte :=
  frame (BitVec.ofNat 8 (0x40 + n.body.kind.index)) 0
    (be 2 n.nseq ++ be 1 (NoticeClass.code n.cls) ++ be 1 n.lost ++ be 6 n.stamp ++ be 1 (chanCode? n.chan) ++ n.body.fields)

/-- The frame of a reply: KIND with 0x80 added by a bitwise OR, the SEQ of the request, and the status first (R149). -/
def replyFrame (kind seq : Byte) (status : Status) (fields : List Byte) : List Byte :=
  frame (kind ||| 0x80) seq (be 1 (Status.code status) ++ fields)

end Sys2Proof.Machine
end

