-- ==== Sys2Proof/Machine/BudgetOps.lean ====
section
/-! DEFINITION. The operations of the Budget Manager on its own state (chapter 2): the totals, the admission queue, the
cycle-return claims, the grant scan with the start slot arbiter, and shed rank. -/

namespace Sys2Proof.Machine

/-- The sum of a number over the held records (R28). -/
def recordSum (records : PerChan (Option Reservation)) (f : Reservation → Nat) : Nat :=
  (Chan.all.map fun c => ((records.get c).map f).getD 0).sum

/-- Committed: the sum of the amounts of all held records (R28). -/
def Budget.committed (b : Budget) : Nat := recordSum b.records (·.amount)

/-- The start slots in use: the held records with slot yes (R37). -/
def Budget.slotsInUse (b : Budget) : Nat := recordSum b.records (·.slot.toNat)

/-- Headroom: the budget limit less committed (R28). -/
def Budget.headroom (b : Budget) : Nat := b.settings.limit - b.committed

/-- A join at the tail of its class (R31). -/
def insertTail (e : Waiting) (queue : List Waiting) : List Waiting :=
  queue.takeWhile (fun x => x.cls ≤ e.cls) ++ e :: queue.dropWhile (fun x => x.cls ≤ e.cls)

/-- A join at the head of its class (R31). -/
def insertHead (e : Waiting) (queue : List Waiting) : List Waiting :=
  queue.takeWhile (fun x => x.cls < e.cls) ++ e :: queue.dropWhile (fun x => x.cls < e.cls)

/-- A join (R30, R31): at the head of its class for origin REQUEUE, at the tail for every other; it brings a scan (R33). -/
def Budget.join (b : Budget) (now : Nat) (c : Chan) (cfg : ChannelConfig) (origin : Origin) : Budget :=
  let e : Waiting :=
    { chan := c, cls := cfg.cls, allowance := cfg.allowance, joinStamp := now, origin := origin, bypass := 0
      joinNumber := b.nextJoin }
  { b with
    queue := if origin = .requeue then insertHead e b.queue else insertTail e b.queue
    nextJoin := wrapSucc 65535 b.nextJoin
    scanDue := true }

/-- A channel has an admission queue entry (R30). -/
def Budget.hasEntry (b : Budget) (c : Chan) : Bool := b.queue.any fun e => e.chan == c

/-- The channel gives up all it holds with the Budget Manager: its record with its slot, its claim, its queue entry, and a
grant in transit with them (R32, R36, R38). A release, a cancelled grant or a leave brings a scan (R33). -/
def Budget.drop (b : Budget) (c : Chan) : Budget :=
  { b with
    records := b.records.set c none
    claims := b.claims.filter fun x => x.chan != c
    queue := b.queue.filter fun e => e.chan != c
    scanDue := b.scanDue || (b.records.get c).isSome || b.hasEntry c }

/-- The record of a channel that holds one changes (R28). -/
def Budget.onRecord (b : Budget) (c : Chan) (f : Reservation → Reservation) : Budget :=
  { b with records := b.records.update c fun r => r.map f }

/-- The channel has entered ON: phase ON, and its start slot is released, which brings a scan (R14, R28, R33). -/
def Budget.enterOn (b : Budget) (c : Chan) : Budget :=
  { b.onRecord c (fun r => { r with phase := .on, slot := false }) with scanDue := true }

/-- The channel has entered CYCLE_OFF and keeps its reservation (R17, R28). -/
def Budget.enterCycleOff (b : Budget) (c : Chan) : Budget :=
  b.onRecord c fun r => { r with phase := .cycleOff, slot := false, claimWaiting := false }

/-- The channel has taken its grant (R36). -/
def Budget.takeGrant (b : Budget) (c : Chan) : Budget := b.onRecord c fun r => { r with grantTaken := true }

/-- A claim takes its place by expiry, and for equal expiries by channel number (R38). -/
def insertClaim (x : Claim) : List Claim → List Claim
  | [] => [x]
  | y :: rest =>
    if x.expiry < y.expiry ∨ (x.expiry = y.expiry ∧ x.chan.toNat < y.chan.toNat) then x :: y :: rest
    else y :: insertClaim x rest

/-- A cycle-return claim is placed, which brings a scan (R20, R33, R38). -/
def Budget.placeClaim (b : Budget) (c : Chan) (expiry : Nat) : Budget :=
  { b.onRecord c (fun r => { r with claimWaiting := true }) with
    claims := insertClaim { chan := c, expiry := expiry, number := b.nextClaim } b.claims
    nextClaim := wrapSucc 65535 b.nextClaim
    scanDue := true }

/-! The grant scan (R33 to R35). -/

/-- The first claim is granted: the record goes back to STARTING with a slot, and the grant is sent naming the claim's
number (R34). -/
def Budget.grantClaim (b : Budget) (now : Nat) (x : Claim) (rest : List Claim) : Budget :=
  { b.onRecord x.chan (fun r =>
      { r with phase := .starting, slot := true, grantTaken := false, claimWaiting := false, grantStamp := now }) with
    claims := rest
    grants := b.grants ++ [.cycleReturn x.chan x.number] }

/-- While a start slot is free and a claim waits, the first claim is granted (R34). -/
def Budget.serveClaims (now : Nat) : List Claim → Budget → Budget
  | [], b => b
  | x :: rest, b =>
    if b.slotsInUse < b.settings.slots then Budget.serveClaims now rest (b.grantClaim now x rest) else b

/-- One walk of the queue (R35): the entry it grants, and the queue without it, the entries it has passed having gained 1;
none when it ends without a grant. -/
def walkQueue (shed : Level) (headroom bypassLimit : Nat) : List Waiting → Option (Waiting × List Waiting)
  | [] => none
  | e :: rest =>
    if shed = .asserted ∧ 1 ≤ e.cls then
      (walkQueue shed headroom bypassLimit rest).map fun x => (x.1, e :: x.2)
    else if e.allowance ≤ headroom then some (e, rest)
    else if e.bypass < bypassLimit then
      (walkQueue shed headroom bypassLimit rest).map fun x => (x.1, { e with bypass := e.bypass + 1 } :: x.2)
    else none

/-- An entry is granted: the record becomes held, and the grant is sent naming the entry's join number (R35). -/
def Budget.grantEntry (b : Budget) (now : Nat) (e : Waiting) (rest : List Waiting) : Budget :=
  { b with
    queue := rest
    records := b.records.set e.chan (some
      { amount := e.allowance, cls := e.cls, grantStamp := now, phase := .starting, slot := true, grantTaken := false
        claimWaiting := false })
    grants := b.grants ++ [.queue e.chan e.joinNumber] }

/-- The walks of one scan, each from the head, while a slot is free and a walk grants; each takes an entry out of the queue,
so their number is at most its length (R35). -/
def Budget.walks (now : Nat) : Nat → Budget → Budget
  | 0, b => b
  | n + 1, b =>
    if b.slotsInUse < b.settings.slots then
      match walkQueue b.shedLevel b.headroom b.settings.bypassLimit b.queue with
      | some (e, rest) => Budget.walks now n (b.grantEntry now e rest)
      | none => b
    else b

/-- A grant scan: the bus-good gate, the claims, then the queue (R34, R35). -/
def Budget.scan (b : Budget) (now : Nat) : Budget :=
  if b.busGood then
    let b := Budget.serveClaims now b.claims b
    Budget.walks now b.queue.length b
  else b

/-- The one scan that ends an event in which a trigger of R33 came. -/
def Budget.runScan (b : Budget) (now : Nat) : Budget :=
  if b.scanDue then { b.scan now with scanDue := false } else b

/-- The scan at the end of an event, or of the part of it that a rule names. -/
def State.runScan (s : State) : State := s.onBudget fun b => b.runScan s.uptime

/-! Shed rank (R39). -/

/-- Whether a record stands before another in shed rank, the other's channel number being lower: the higher class, then the
later grant stamp, then the higher channel number. -/
def ranksBefore (r other : Reservation) : Bool :=
  decide (other.cls < r.cls ∨ (other.cls = r.cls ∧ other.grantStamp ≤ r.grantStamp))

/-- The first in shed rank among the candidates of some channels, taken in ascending number after `best`. -/
def rankFrom (records : PerChan (Option Reservation)) (candidate : Reservation → Bool) :
    List Chan → Option (Chan × Reservation) → Option (Chan × Reservation)
  | [], best => best
  | c :: rest, best =>
    match records.get c with
    | none => rankFrom records candidate rest best
    | some r =>
      if candidate r then
        match best with
        | none => rankFrom records candidate rest (some (c, r))
        | some (c', r') => rankFrom records candidate rest (if ranksBefore r r' then some (c, r) else some (c', r'))
      else rankFrom records candidate rest best

/-- The first in shed rank among the candidates (R39). -/
def Budget.firstInRank (b : Budget) (candidate : Reservation → Bool) : Option (Chan × Reservation) :=
  rankFrom b.records candidate Chan.all none

/-- The candidates of each cause (R39): every held record; class 1 to 3; class 1 to 3 in phase ON. -/
def anyHeld (_ : Reservation) : Bool := true
def shedLineCandidate (r : Reservation) : Bool := decide (1 ≤ r.cls)
def overloadCandidate (r : Reservation) : Bool := decide (1 ≤ r.cls) && decide (r.phase = .on)

/-! Measurements at the Budget Manager (R29, R45, R46). -/

/-- The bus-good flag takes a tested value; a change from no to yes brings a scan (R29, R33). -/
def Budget.setBusGood (b : Budget) (good : Bool) : Budget :=
  { b with busGood := good, scanDue := b.scanDue || (good && !b.busGood) }

/-- The block event (R46): above the limit the hold timer starts if it is not running; at or below, it stops. -/
def Budget.blockEvent (b : Budget) (holdExpiry : Nat) : Budget :=
  if overloaded b.overAverage b.settings.limit then { b with holdTimer := some (b.holdTimer.getD holdExpiry) }
  else { b with holdTimer := none }

/-- A round total is added into the overload block; the sixteenth completes it (R45). -/
def Budget.addRound (b : Budget) (total holdExpiry : Nat) : Budget :=
  if b.overCount + 1 < 16 then { b with overSum := b.overSum + total, overCount := b.overCount + 1 }
  else
    { b with overSum := 0, overCount := 0, overAverage := (b.overSum + total) / 16 }.blockEvent holdExpiry

/-- The Budget Manager's values at a start that holds nothing (R51, R52). -/
def Budget.atStart (b : Budget) (settings : BudgetSettings) : Budget :=
  { b with
    settings := settings
    records := PerChan.ofFn fun _ => none
    queue := []
    nextJoin := 0
    claims := []
    nextClaim := 0
    busGood := false
    lastBus := none
    overSum := 0
    overCount := 0
    overAverage := 0
    holdTimer := none
    grants := []
    scanDue := false }

end Sys2Proof.Machine
end

