-- ==== Sys2Proof/Machine/NoticeOps.lean ====
section
/-! DEFINITION. The operations of the Notice Unit (chapter 10): posting a notice, keeping the delivery window filled, the end
of a session, and what the acknowledgement, its timer and the valid-frame signal do to the window. -/

namespace Sys2Proof.Machine

/-- The line is set at every change of the queue's contents (R170). -/
def Notices.setAttn (u : Notices) : Notices := { u with attn := attnLevel u.queue }

/-- Only a routine notice in state UNSENT is evicted (R165). -/
def Notice.evictable (n : Notice) : Bool := n.cls == .routine && n.delivery == .unsent

/-- A notice joins at the tail with the next NSEQ and the pending lost count, which becomes 0 (R164, R165). -/
def Notices.join (u : Notices) (now : Nat) (chan : Option Chan) (body : NoticeBody) : Notices :=
  { u with
    queue := u.queue ++
      [{ nseq := u.nextNseq, cls := body.cls, stamp := now, chan := chan, body := body, lost := u.lost
         delivery := .unsent, frameWaiting := false }]
    nextNseq := wrapSucc 65535 u.nextNseq
    lost := 0 }

/-- The three cases of a notice posted to the queue (R165). -/
def Notices.meetQueue (u : Notices) (now : Nat) (chan : Option Chan) (body : NoticeBody) : Notices :=
  if u.queue.length < 24 then u.join now chan body
  else if body.cls = .urgent ∧ u.queue.any Notice.evictable = true then
    { u with queue := u.queue.eraseP Notice.evictable, lost := satAdd 255 u.lost 1 }.join now chan body
  else { u with lost := satAdd 255 u.lost 1 }

/-- How many notices are OFFERED or IN_FLIGHT (R166). -/
def windowCount (queue : List Notice) : Nat := (queue.filter fun n => n.delivery != .unsent).length

/-- The oldest UNSENT notices, up to a number, become OFFERED and their frames are offered to the transmitter (R166). -/
def offerUnsent : Nat → List Notice → List Notice
  | _, [] => []
  | k, n :: rest =>
    if n.delivery = .unsent then
      match k with
      | 0 => n :: rest
      | k + 1 => { n with delivery := .offered, frameWaiting := true } :: offerUnsent k rest
    else n :: offerUnsent k rest

/-- In OPEN and not stalled the window is kept filled, up to four (R166). -/
def Notices.fillWindow (u : Notices) : Notices :=
  if u.sessionOpen && !u.stalled then { u with queue := offerUnsent (4 - windowCount u.queue) u.queue } else u

/-- A notice is generated when its kind is in the subscription set; then it meets the queue, the window is filled and ATTN
is set (R163, R165, R166, R170). -/
def Notices.post (u : Notices) (now : Nat) (chan : Option Chan) (body : NoticeBody) : Notices :=
  if u.subscriptions.getLsbD body.kind.index then ((u.meetQueue now chan body).fillWindow).setAttn else u

/-- Post a notice at the present uptime. -/
def State.post (s : State) (chan : Option Chan) (body : NoticeBody) : State :=
  s.onNotices fun u => u.post s.uptime chan body

/-- Post notices in order. -/
def State.postAll (s : State) : List (Option Chan × NoticeBody) → State
  | [] => s
  | (chan, body) :: rest => (s.post chan body).postAll rest

/-- A notice at a session end: UNSENT, its waiting frame withdrawn (R162). -/
def Notice.unsend (n : Notice) : Notice := { n with delivery := .unsent, frameWaiting := false }

/-- A session end at the Notice Unit (R162). Signals for notices that became UNSENT have no effect and are dropped. -/
def Notices.endSession (u : Notices) : Notices :=
  { u with
    sessionOpen := false
    keepaliveTimer := none
    queue := u.queue.map Notice.unsend
    ackTimer := none
    resend := 0
    stalled := false
    sentSignals := [] }

/-- A notice frame on the line at a session end is sent to its last character, and its signal has no effect (R162). -/
def Tx.markStale : Tx → Tx
  | .idle => .idle
  | .reply frame => .reply frame
  | .notice nseq frame _ => .notice nseq frame true

/-- A session end (R162). -/
def State.endSession (s : State) : State :=
  (s.onNotices Notices.endSession).onLink fun l => { l with tx := l.tx.markStale }

/-- Every IN_FLIGHT notice is offered to the transmitter again (R168, R169). -/
def Notice.reoffer (n : Notice) : Notice := if n.delivery = .inFlight then { n with frameWaiting := true } else n

/-- A notice of an NSEQ becomes IN_FLIGHT when its frame has left (R166). -/
def markSent (nseq : Nat) (queue : List Notice) : List Notice :=
  queue.map fun n => if n.nseq = nseq ∧ n.delivery = .offered then { n with delivery := .inFlight } else n

/-- A notice of an NSEQ is OFFERED or IN_FLIGHT (R166). -/
def inWindow (nseq : Nat) (queue : List Notice) : Bool :=
  queue.any fun n => n.nseq == nseq && n.delivery != Delivery.unsent

/-- The notice-sent signal at the Notice Unit (R166): in delivery the acknowledgement timer starts; while delivery is stalled it
stays stopped (R168; DEDUCED, log 37). -/
def Notices.takeSent (u : Notices) (nseq ackExpiry : Nat) : Notices :=
  if inWindow nseq u.queue then
    { u with queue := markSent nseq u.queue, ackTimer := if u.stalled then u.ackTimer else some ackExpiry }
  else u

/-- The expiry of the acknowledgement timer (R168). While delivery is stalled no notice is offered (R166): the timer, which does
not run then, is only stopped. -/
def Notices.ackExpiry (u : Notices) : Notices :=
  if u.stalled then { u with ackTimer := none }
  else if u.resend < 3 then { u with ackTimer := none, resend := u.resend + 1, queue := u.queue.map Notice.reoffer }
  else { u with ackTimer := none, stalled := true }

/-- A valid-frame signal in OPEN lifts a stall: resend count 0, the IN_FLIGHT notices offered again, the window filled
(R169). -/
def Notices.liftStall (u : Notices) : Notices :=
  if u.sessionOpen && u.stalled then
    { u with stalled := false, resend := 0, queue := u.queue.map Notice.reoffer }.fillWindow
  else u

/-- A valid-frame signal at the Notice Unit (R159, R169): the latest frame stamp, the keepalive timer of an open session with
a keepalive, and a stall. -/
def Notices.takeValidFrame (u : Notices) (now keepaliveExpiry : Nat) : Notices :=
  { u with
    latestFrame := now
    keepaliveTimer := if u.sessionOpen && u.keepalive != 0 then some keepaliveExpiry else u.keepaliveTimer }.liftStall

/-- The notices after the one of an NSEQ, with how many stand up to and including it, when that notice is IN_FLIGHT
(R167). -/
def acknowledged (nseq : Nat) : List Notice → Option (Nat × List Notice)
  | [] => none
  | n :: rest =>
    if n.nseq = nseq then (if n.delivery = .inFlight then some (1, rest) else none)
    else (acknowledged nseq rest).map fun x => (x.1 + 1, x.2)

/-- An accepted NOTICE_ACK leaves these notices (R167): with notices left IN_FLIGHT the timer is restarted; while delivery is
stalled it stays stopped (R168; DEDUCED, log 37). -/
def Notices.acknowledge (u : Notices) (rest : List Notice) (ackExpiry : Nat) : Notices :=
  ({ u with
      queue := rest
      resend := 0
      ackTimer :=
        if !u.stalled && rest.any (fun n => n.delivery == Delivery.inFlight) then some ackExpiry else none }.fillWindow).setAttn

/-- The NSEQ of the oldest notice in the queue, or the next NSEQ with the queue empty (R158, R167). -/
def Notices.oldestNseq (u : Notices) : Nat :=
  match u.queue with
  | [] => u.nextNseq
  | n :: _ => n.nseq

/-- The Notice Unit at a start (R172). -/
def Notices.atStart (u : Notices) (subscriptions : BitVec 13) : Notices :=
  { u with
    sessionOpen := false
    keepalive := 0
    keepaliveTimer := none
    openedStamp := 0
    latestFrame := 0
    subscriptions := subscriptions
    queue := []
    nextNseq := 0
    lost := 0
    ackTimer := none
    resend := 0
    stalled := false
    attn := .released
    sentSignals := [] }

end Sys2Proof.Machine
end

