-- ==== Sys2Proof/Machine/ChannelOps.lean ====
section
/-! DEFINITION. The operations on a channel (chapters 1 to 3): the four requests, the start sequence, the power cycle, trip
and start failure, the watch LATCH action, the joins and the sheds. A release or a leave marks a scan as due; the event that
calls the operation runs the scan where its rule says so (State.runScan). -/

namespace Sys2Proof.Machine

/-- Arming copies trip current and trip filter, clears filter running and adds 1 to the arming number (R54). -/
def Comparator.arm (k : Comparator) (cfg : ChannelConfig) : Comparator :=
  { k with
    armed := true
    threshold := cfg.tripCurrent
    filter := cfg.tripFilter
    filterRunning := false
    armingNumber := wrapSucc 255 k.armingNumber }

/-- Disarming abandons a filter in progress (R54). -/
def Comparator.disarm (k : Comparator) : Comparator := { k with armed := false, filterRunning := false }

/-- What every event that ends a channel's power, entry or cooldown does at the channel: gate off, comparator disarmed, timer
cancelled, cycle pending and cycle return waiting cleared (R9, R40, R56, R59, R64). -/
def Channel.quiesce (k : Channel) : Channel :=
  { k with
    gate := .off
    comparator := k.comparator.disarm
    timer := .none
    cyclePending := none
    cycleReturnWaiting := false }

/-- The channel gives up its power, its timer and all it holds with the Budget Manager, and enters a state with a last off
reason (R5). -/
def State.leave (s : State) (c : Chan) (entered : ChState) (reason : OffReason) : State :=
  (s.onChan c fun k => { k.quiesce with state := entered, lastOff := reason }).onBudget fun b => b.drop c

/-- A CHANNEL_STATE notice of the state left, the state entered and the last off reason after the change (R7). -/
def State.postChange (s : State) (c : Chan) (left : ChState) (cause : ChangeCause) : State :=
  s.post (some c) (.channelState left (s.chan c).state cause (s.chan c).lastOff)

/-- A join: the Budget Manager places the entry and the channel becomes QUEUED with its join number (R3, R8, R31). -/
def State.joinQueue (s : State) (c : Chan) (origin : Origin) : State :=
  (s.onChan c fun k => { k with state := .queued, joinNumber := s.budget.nextJoin }).onBudget fun b =>
    b.join s.uptime c (s.chan c).cfg origin

/-! The four requests. -/

/-- The last off reason of an OFF request's origin (R5, R6). -/
def offReasonOf : Origin → OffReason
  | .host => .host
  | .schedule => .schedule
  | .watch => .watch
  | .session => .hostLoss
  | .profile | .restart | .retry | .requeue => .none

/-- An ON request (R8). -/
def State.requestOn (s : State) (c : Chan) (origin : Origin) : State × Status :=
  match (s.chan c).state with
  | .off => if (s.chan c).cfg.allowance ≤ s.budget.settings.limit then (s.joinQueue c origin, .ok) else (s, .tooLarge)
  | .queued | .starting => (s, .already)
  | .on => if (s.chan c).cyclePending.isSome then (s, .busy) else (s, .already)
  | .cycleOff => (s, .busy)
  | .cooldown => (s, .cooling)
  | .latched => (s, .latched)
  | .disabled => (s, .notConfigured)

/-- An OFF request (R9). -/
def State.requestOff (s : State) (c : Chan) (origin : Origin) : State × Status :=
  match (s.chan c).state with
  | .queued | .starting | .on | .cycleOff | .cooldown => (s.leave c .off (offReasonOf origin), .ok)
  | .off => (s, .already)
  | .latched => (s, .latched)
  | .disabled => (s, .notConfigured)

/-- Entry to CYCLE_OFF from ON (R17). -/
def State.enterCycleOff (s : State) (c : Chan) : State :=
  (s.onChan c fun k =>
    { k with
      state := .cycleOff
      gate := .off
      comparator := k.comparator.disarm
      cyclePending := none
      timer := .cycle (s.deadline k.cfg.cycleTime) }).onBudget fun b => b.enterCycleOff c

/-- The refusals of a CYCLE request, the same for both origins (R10); `none` in ON with cycle pending no. -/
def cycleRefusal (k : Channel) : Option Status :=
  match k.state with
  | .on => if k.cyclePending.isSome then some .busy else none
  | .cycleOff => some .busy
  | .starting | .queued | .off | .cooldown => some .notOn
  | .latched => some .latched
  | .disabled => some .notConfigured

/-- A CYCLE request of origin HOST: cycle pending is set, with the request that set it (R10, R18). -/
def State.requestCycleHost (s : State) (c : Chan) (request : Nat) : State × Status :=
  match cycleRefusal (s.chan c) with
  | some status => (s, status)
  | none => (s.onChan c fun k => { k with cyclePending := some request }, .ok)

/-- A CYCLE request of origin SCHEDULE: the channel enters CYCLE_OFF at once (R10, R17). -/
def State.requestCycleSchedule (s : State) (c : Chan) : State × Status :=
  match cycleRefusal (s.chan c) with
  | some status => (s, status)
  | none => (s.enterCycleOff c, .ok)

/-- A CLEAR request (R11). -/
def State.requestClear (s : State) (c : Chan) : State × Status :=
  if (s.chan c).state = .latched then (s.onChan c fun k => { k with state := .off, retryCount := 0 }, .ok)
  else (s, .already)

/-! The start sequence and the power cycle. -/

/-- Entry to STARTING on taking a grant (R13, R36). -/
def State.enterStarting (s : State) (c : Chan) (cause : ChangeCause) : State :=
  ((s.onChan c fun k =>
    { k with
      state := .starting
      gate := .regulating
      grantStamp := s.uptime
      cycleReturnWaiting := false
      timer := .start (s.deadline k.cfg.startTime) }).onBudget fun b => b.takeGrant c).postChange c (s.chan c).state cause

/-- Entry to ON from STARTING (R14). -/
def State.enterOn (s : State) (c : Chan) : State :=
  ((s.onChan c fun k =>
    { k with
      state := .on
      gate := .full
      comparator := k.comparator.arm k.cfg
      onSince := s.uptime
      cyclePending := none
      cycleReturnWaiting := false
      timer := .retryWindow (s.deadline (1000 * k.cfg.retryWindow)) }).onBudget fun b => b.enterOn c).postChange c
    (s.chan c).state .up

/-! Faults (chapter 3). -/

/-- Step 1 to 5 of a trip and step 1 to 4 of a start failure: power and reservation given up, the reason recorded, the trip
total raised, then COOLDOWN with its timer or LATCHED by the retry count (R56, R57, R59, R62, R66). -/
def State.faulted (s : State) (c : Chan) (reason : OffReason) : State :=
  if (s.chan c).retryCount < (s.chan c).cfg.retryLimit then
    (s.leave c .cooldown reason).onChan c fun k =>
      { k with
        tripTotal := satAdd 65535 k.tripTotal 1
        retryCount := k.retryCount + 1
        timer := .cooldown (s.deadline k.cfg.cooldown) }
  else
    (s.leave c .latched reason).onChan c fun k => { k with tripTotal := satAdd 65535 k.tripTotal 1 }

/-- The LATCHED notice of exhausted retries, after the notice of the fault (R57, R68). -/
def State.postExhausted (s : State) (c : Chan) (fault : FaultKind) (left : ChState) : State :=
  if (s.chan c).state = .latched then
    s.post (some c) (.latched .retriesExhausted (some fault) none left (s.chan c).retryCount (s.chan c).tripTotal)
  else s

/-- The TRIP notice (R56 step 6). -/
def tripNotice (k : Channel) : NoticeBody :=
  .trip k.latest.current k.latest.overFlag k.retryCount k.state k.tripTotal

/-- The START_FAIL notice (R59 step 5). -/
def startFailNotice (k : Channel) : NoticeBody :=
  .startFail k.latest.current k.latest.voltage k.latest.bus k.retryCount k.state k.tripTotal

/-- A trip taken in ON (R56). -/
def State.tripped (s : State) (c : Chan) : State :=
  let t := s.faulted c .trip
  (t.post (some c) (tripNotice (t.chan c))).postExhausted c .trip (s.chan c).state

/-- A start failure (R59). -/
def State.startFailed (s : State) (c : Chan) : State :=
  let t := s.faulted c .startFail
  (t.post (some c) (startFailNotice (t.chan c))).postExhausted c .startFail (s.chan c).state

/-- A watch LATCH action (R64). -/
def State.latchAction (s : State) (c : Chan) (record : Nat) : State × Status :=
  match (s.chan c).state with
  | .off | .queued | .starting | .on | .cycleOff | .cooldown =>
    let t := s.leave c .latched .watch
    (t.post (some c)
      (.latched .watch none (some record) (s.chan c).state (t.chan c).retryCount (t.chan c).tripTotal), .ok)
  | .latched => (s, .latched)
  | .disabled => (s, .notConfigured)

/-! Sheds (R39 to R41). -/

/-- The last off reason of a shed (R39). -/
def shedReason : ShedCause → OffReason
  | .budget => .shedBudget
  | .line => .shedLine
  | .overload => .shedOverload

/-- The channel and its record go through a shed: off with the reason of the cause, then re-queued at the head of its class
or left OFF by after-shed and the limit in force (R40, R41). -/
def State.shedChannel (s : State) (c : Chan) (cause : ShedCause) : State :=
  let t := s.leave c .off (shedReason cause)
  if (s.chan c).cfg.afterShed = .requeue ∧ (s.chan c).cfg.allowance ≤ s.budget.settings.limit then t.joinQueue c .requeue
  else t

/-- The SHED notice of a shed from `s` to `t` of a channel that held record `r` (R40). -/
def shedNotice (s t : State) (c : Chan) (r : Reservation) (cause : ShedCause) : NoticeBody :=
  .shed cause (s.chan c).state (t.chan c).state r.cls r.amount t.budget.committed

/-- Channels are shed one at a time in shed rank among the candidates, while `more` holds of what the shed before has left;
the notices come with the state, in order (R40). There are eight records, so eight sheds are enough. -/
def State.shedWhile (cause : ShedCause) (candidate : Reservation → Bool) (more : Budget → Bool) :
    Nat → State → State × List (Chan × NoticeBody)
  | 0, s => (s, [])
  | n + 1, s =>
    if more s.budget then
      match s.budget.firstInRank candidate with
      | none => (s, [])
      | some (c, r) =>
        let t := s.shedChannel c cause
        let rest := State.shedWhile cause candidate more n t
        (rest.1, (c, shedNotice s t c r cause) :: rest.2)
    else (s, [])

/-- The excess: committed is above the budget limit (R49, R136). -/
def Budget.excess (b : Budget) : Bool := decide (b.settings.limit < b.committed)

/-- Sheds until committed is at most the limit, among all classes (R49 step 2, R136 step 3). -/
def State.shedExcess (s : State) : State × List (Chan × NoticeBody) := State.shedWhile .budget anyHeld Budget.excess 8 s

/-- Sheds every held record of class 1 to 3 (R43, R136 step 4). -/
def State.shedForLine (s : State) : State × List (Chan × NoticeBody) :=
  State.shedWhile .line shedLineCandidate (fun _ => true) 8 s

/-- The channels shed, as an ascending set. -/
def shedSet (sheds : List (Chan × NoticeBody)) : List Chan :=
  Chan.all.filter fun c => sheds.any fun x => x.1 == c

/-- The SHED notices are posted in the order of the sheds (R40). -/
def State.postSheds (s : State) (sheds : List (Chan × NoticeBody)) : State :=
  s.postAll (sheds.map fun x => (some x.1, x.2))

/-! Entries that no longer fit (R49 step 3). -/

/-- The channel of an entry whose allowance exceeds the limit becomes OFF with reason BUDGET, with a CHANNEL_STATE notice
(R5, R7, R32). -/
def State.removeEntry (s : State) (c : Chan) : State :=
  (s.leave c .off .budget).postChange c (s.chan c).state .budget

/-- Several such entries. DESIGN CHOICE (log 33): one after another in admission order, so that their notices come in that
order; R49 gives none. -/
def State.removeEntries (s : State) : List Chan → State
  | [] => s
  | c :: rest => (s.removeEntry c).removeEntries rest

/-- The channels of the entries whose allowance exceeds the limit (R49 step 3). -/
def Budget.tooLarge (b : Budget) : List Chan :=
  (b.queue.filter fun e => decide (b.settings.limit < e.allowance)).map (·.chan)

end Sys2Proof.Machine
end

