-- ==== Sys2Proof/Machine/LinkOps.lean ====
section
/-! DEFINITION. The operations of the Link Interface (chapter 9): the receiver, the request queue with its duplicates, dispatch
with its checks, the transmitter arbiter, the reply list, the link restart; and `settle`, which ends every event of the part
with the scan it has brought and the arbiter's choice. -/

namespace Sys2Proof.Machine

/-! Link statistics (R153). -/

/-- One framing abort is counted. -/
def LinkStats.countFramingAbort (x : LinkStats) : LinkStats := { x with framingAborts := satAdd 65535 x.framingAborts 1 }

/-- One CRC error is counted. -/
def LinkStats.countCrcError (x : LinkStats) : LinkStats := { x with crcErrors := satAdd 65535 x.crcErrors 1 }

/-- One overrun discard is counted. -/
def LinkStats.countOverrun (x : LinkStats) : LinkStats := { x with overrunDiscards := satAdd 65535 x.overrunDiscards 1 }

/-- One duplicate re-answered is counted. -/
def LinkStats.countReplied (x : LinkStats) : LinkStats := { x with duplicatesReplied := satAdd 65535 x.duplicatesReplied 1 }

/-- One duplicate discarded is counted. -/
def LinkStats.countDiscarded (x : LinkStats) : LinkStats :=
  { x with duplicatesDiscarded := satAdd 65535 x.duplicatesDiscarded 1 }

/-! The receiver (R140 to R142). -/

/-- The receiver returns to HUNT with the gap timer stopped (R140). -/
def Link.toHunt (l : Link) : Link := { l with receiver := .hunt, gapTimer := none }

/-- The frame being received is abandoned and one framing abort counted (R140, R141). -/
def Link.abandon (l : Link) : Link := { l.toHunt with stats := l.stats.countFramingAbort }

/-- A frame is being received: the receiver is in LENGTH, BODY or CHECK (R140). -/
def Link.inFrame (l : Link) : Bool := l.receiver != .hunt

/-- The receiver takes characters: after a break it waits for the line to return high (R143). -/
def Link.takesCharacters (l : Link) : Bool := !l.breakWait

/-- A kept reply or an entry in hand has this KIND, SEQ and request CRC (R145). -/
def KeptReply.answers (k : KeptReply) (kind seq : Byte) (crc : BitVec 16) : Bool :=
  k.kind == kind && k.seq == seq && k.crc == crc

def ReqEntry.repeats (e : ReqEntry) (kind seq : Byte) (crc : BitVec 16) : Bool :=
  e.kind == kind && e.seq == seq && e.crc == crc

/-- A received request frame against the queue and the reply list: the four cases of R145, in their order. -/
def Link.enqueue (l : Link) (kind seq : Byte) (payload : List Byte) (crc : BitVec 16) (signalWait : Nat) : Link :=
  let entry : ReqEntry :=
    { id := l.nextId, kind := kind, seq := seq, crc := crc, payload := payload, form := .new, phase := .waiting
      reply := [], awaiting := .nothing, signalWait := signalWait }
  if l.queue.any (fun e => e.repeats kind seq crc) then { l with stats := l.stats.countDiscarded }
  else if 4 ≤ l.queue.length then { l with stats := l.stats.countOverrun }
  else
    match l.replyList.find? (fun k => k.answers kind seq crc) with
    | some k =>
      { l with
        queue := l.queue ++ [{ entry with form := .repeated, phase := .answered, reply := k.reply }]
        nextId := l.nextId + 1
        stats := l.stats.countReplied }
    | none => { l with queue := l.queue ++ [entry], nextId := l.nextId + 1 }

/-- A frame whose check passes (R142): its valid-frame signal when the KIND is assigned, then the request queue. -/
def Link.acceptFrame (l : Link) (kind seq : Byte) (payload : List Byte) (crc : BitVec 16) : Link :=
  if (ReqKind.ofCode? kind).isSome then
    { l with validSignals := l.validSignals + 1 }.enqueue kind seq payload crc (l.validSignals + 1)
  else l.enqueue kind seq payload crc 0

/-- A frame is complete and is checked (R142): body of KIND, SEQ and payload, check bytes high byte first. -/
def Link.frameDone (l : Link) (len : Byte) (body : List Byte) (hi lo : Byte) : Link :=
  let crc := crc16 (len :: body)
  if crc = hi ++ lo then
    match body with
    | kind :: seq :: payload => l.toHunt.acceptFrame kind seq payload crc
    | _ => l.toHunt
  else { l.toHunt with stats := l.stats.countCrcError }

/-- The receiver takes a character (the table of R140); in LENGTH, BODY and CHECK each character taken restarts the gap
timer (R141). -/
def Link.takeCharacter (l : Link) (char : Byte) (gapExpiry : Nat) : Link :=
  match l.receiver with
  | .hunt => if char = 0xA5 then { l with receiver := .length, gapTimer := some gapExpiry } else l
  | .length =>
    if char.toNat < 2 ∨ 250 < char.toNat then l.abandon
    else { l with receiver := .body char [], gapTimer := some gapExpiry }
  | .body len got =>
    if got.length + 1 < len.toNat then { l with receiver := .body len (got ++ [char]), gapTimer := some gapExpiry }
    else { l with receiver := .check len (got ++ [char]) none, gapTimer := some gapExpiry }
  | .check len body none => { l with receiver := .check len body (some char), gapTimer := some gapExpiry }
  | .check len body (some first) => l.frameDone len body first char

/-- A character error (R140): in HUNT it is not counted; inside a frame it abandons the frame. -/
def Link.takeError (l : Link) : Link := if l.inFrame then l.abandon else l

/-! The transmitter (R146, R150). -/

/-- The oldest entry of the request queue, when it is ready to be sent (R150). -/
def Link.readyReply (l : Link) : Option ReqEntry :=
  match l.queue with
  | [] => none
  | e :: _ => if e.phase = .answered then some e else none

/-- The reply of the oldest entry starts: the entry enters phase SENDING (R150). -/
def Link.startReply (l : Link) : Link :=
  match l.queue with
  | [] => l
  | e :: rest => { l with queue := { e with phase := .sending } :: rest, tx := .reply e.reply }

/-- The notice whose frame is offered and that stands first in the notice queue (R150). -/
def Notices.readyNotice (u : Notices) : Option Notice := u.queue.find? fun n => n.frameWaiting

/-- The waiting frame of a notice has started. -/
def Notices.frameStarted (u : Notices) (nseq : Nat) : Notices :=
  { u with queue := u.queue.map fun n => if n.nseq = nseq then { n with frameWaiting := false } else n }

/-- A notice frame starts (R150). -/
def State.startNotice (s : State) (n : Notice) : State :=
  (s.onNotices fun u => u.frameStarted n.nseq).onLink fun l => { l with tx := .notice n.nseq (noticeFrame n) false }

/-- The reply of the oldest entry starts (R150). -/
def State.startReply (s : State) : State := s.onLink Link.startReply

/-- The arbiter when a frame becomes ready while the transmitter is idle (R150). A ready reply and an offered notice can only
have become ready together; which starts first is a free value (log 5). -/
def State.arbitrate (s : State) : State :=
  match s.link.tx, s.link.readyReply, s.notices.readyNotice with
  | .idle, some _, none => s.startReply
  | .idle, none, some n => s.startNotice n
  | .idle, some _, some n =>
    let t := { s with draws := s.draws + 1 }
    if Config.replyFirst s.draws then t.startReply else t.startNotice n
  | _, _, _ => s

/-- The arbiter when the transmitter becomes idle: a ready reply goes before a notice (R150). -/
def State.nextFrame (s : State) : State :=
  match s.link.tx, s.link.readyReply, s.notices.readyNotice with
  | .idle, some _, _ => s.startReply
  | .idle, none, some n => s.startNotice n
  | _, _, _ => s

/-- Every event ends with the scan it has brought (R33) and the arbiter's choice (R150). -/
def State.settle (s : State) : State := s.runScan.arbitrate

/-- The newest reply is placed in the reply list of at most 4 (R146); a REPEAT moves its earlier entry. -/
def placeReply (form : ReqForm) (k : KeptReply) (list : List KeptReply) : List KeptReply :=
  let kept :=
    match form with
    | .new => list
    | .repeated => list.filter fun x => !x.answers k.kind k.seq k.crc
  (kept ++ [k]).drop (kept.length + 1 - 4)

/-- The signal that must follow the reply of an entry, when there is one (R151). -/
def signalsOf (e : ReqEntry) (fate : ReplyFate) : List ReplySignal :=
  match e.awaiting with
  | .nothing => []
  | target => [{ target := target, request := e.id, fate := fate }]

/-- The last character of a reply has left (R146, R150, R151). -/
def Link.replyLeft (l : Link) : Link :=
  match l.queue with
  | [] => { l with tx := .idle }
  | e :: rest =>
    { l with
      tx := .idle
      queue := rest
      replyList := placeReply e.form { kind := e.kind, seq := e.seq, crc := e.crc, reply := e.reply } l.replyList
      signals := l.signals ++ signalsOf e .sent }

/-- The last character of a frame has left (R150). -/
def State.frameLeft (s : State) : State :=
  match s.link.tx with
  | .idle => s
  | .reply _ => (s.onLink Link.replyLeft).nextFrame
  | .notice nseq _ stale =>
    ((s.onLink fun l => { l with tx := .idle }).onNotices fun u =>
      if stale then u else { u with sentSignals := u.sentSignals ++ [nseq] }).nextFrame

/-! Dispatch (R147 to R149). -/

/-- The oldest WAITING entry (R147). -/
def Link.oldestWaiting (l : Link) : Option ReqEntry := l.queue.find? fun e => e.phase == ReqPhase.waiting

/-- What an owning block answers: status, the fields after it, and the signal that must follow the reply (R149, R151). -/
structure Answer where
  status   : Status
  fields   : List Byte
  awaiting : Awaiting
deriving DecidableEq, Repr, Inhabited

/-- An answer that awaits no signal. -/
def answer (status : Status) (fields : List Byte) : Answer := { status := status, fields := fields, awaiting := .nothing }

/-- The reply of an entry is formed and the entry enters phase ANSWERED (R147, R149). -/
def Link.reply (l : Link) (e : ReqEntry) (a : Answer) : Link :=
  { l with
    queue := l.queue.map fun x =>
      if x.id = e.id then
        { x with phase := .answered, reply := replyFrame e.kind e.seq a.status a.fields, awaiting := a.awaiting }
      else x }

/-- The entry is answered, and the event ends. -/
def State.reply (s : State) (e : ReqEntry) (a : Answer) : State := (s.onLink fun l => l.reply e a).settle

/-- The checks of R148 in their order, and the owning block. `serve` is the owner: it takes the request's identity and its
fields, and answers within the same event. -/
def State.checked {α : Type} (s : State) (k : ReqKind) (e : ReqEntry) (parse : List Byte → Option α)
    (serve : Nat → α → State → State × Answer) : State × Answer :=
  if e.payload.length ≠ k.length then (s, answer .badLength [])
  else if k.needsSession e.payload && !s.notices.sessionOpen then (s, answer .noSession [])
  else
    match parse e.payload with
    | none => (s, answer .badField [])
    | some x => serve e.id x s

/-- The entry that a request command dispatches: the oldest WAITING entry, when its KIND is the command's and its valid-frame
signal has been taken (R147, R159; log 9). -/
def State.dispatchable (s : State) (kind : Byte) : Option ReqEntry :=
  match s.link.oldestWaiting with
  | none => none
  | some e => if e.kind = kind ∧ e.signalWait = 0 then some e else none

/-- The dispatch of a request kind (R147): nothing happens when no entry of the kind is to be dispatched (log 15). -/
def State.dispatch {α : Type} (k : ReqKind) (parse : List Byte → Option α) (serve : Nat → α → State → State × Answer)
    (s : State) : State :=
  match s.dispatchable k.code with
  | none => s
  | some e =>
    let r := s.afterBoundary.checked k e parse serve
    r.1.reply e r.2

/-! Link restart (R152). -/

/-- The link restart at the Link Interface: steps 1 to 3 (R152, R143). -/
def Link.restart (l : Link) : Link :=
  { l.toHunt with
    breakTimer := none
    breakWait := true
    queue := l.queue.filter fun e => e.phase == ReqPhase.sending
    replyList := []
    signals := l.signals ++
      (l.queue.filter fun e => e.phase != ReqPhase.sending).flatMap fun e => signalsOf e .discarded }

/-- The link restart, with the session closed without host-loss action (R152, R171). -/
def State.linkRestart (s : State) : State :=
  let t := s.onLink Link.restart
  if s.notices.sessionOpen then t.endSession else t

/-- The Link Interface at a start (R156); the statistics are given by the kind of start. -/
def Link.atStart (l : Link) (rate : LinkRate) (stats : LinkStats) : Link :=
  { l with
    rateInUse := rate
    configuredRate := rate
    receiver := .hunt
    gapTimer := none
    breakTimer := none
    breakWait := false
    queue := []
    replyList := []
    tx := .idle
    stats := stats
    validSignals := 0
    signals := [] }

end Sys2Proof.Machine
end

