-- ==== Sys2Proof/Machine/BudgetEvents.lean ====
section
/-! DEFINITION. The SHED line (R42 to R44) and the overload hold timer (R47). -/

namespace Sys2Proof.Machine

/-- The SHED line takes a level (R42). -/
def State.setShedLine (s : State) (level : Level) : State :=
  let t := { s with pins := { s.pins with shed := level } }
  if s.powered then
    t.onBudget fun b => { b with shedFilter := filterAfter b.shedLevel level b.shedFilter (s.deadline shedFilterTime) }
  else t

/-- SHED_LINE_CHANGE (R42). -/
def execShedLineChange (level : Level) (s : State) : Host.Outcome State Fault Refusal := .next (s.setShedLine level)

/-- The assertion event (R43): the sheds with their notices, then the SHED_LINE notice. -/
def State.shedAsserted (s : State) : State :=
  let r := s.shedForLine
  (r.1.postSheds r.2).post none (.shedLine .asserted (shedSet r.2))

/-- The release event (R44): the SHED_LINE notice, and a scan is due. -/
def State.shedReleased (s : State) : State :=
  (s.post none (.shedLine .released [])).onBudget fun b => { b with scanDue := true }

/-- The SHED filter timer expires (R42): the filtered level takes the line's level. -/
def State.shedFilterExpired (s : State) : State :=
  if due s.budget.shedFilter s.uptime then
    let t := s.onBudget fun b => { b with shedLevel := s.pins.shed, shedFilter := none }
    match s.budget.shedLevel, s.pins.shed with
    | .released, .asserted => t.shedAsserted.settle
    | .asserted, .released => t.shedReleased.settle
    | _, _ => t
  else s

/-- SHED_FILTER_EXPIRY (R42). -/
def execShedFilterExpiry (s : State) : Host.Outcome State Fault Refusal := live State.shedFilterExpired s

/-- The overload hold timer expires (R47): it is started again; the OVERLOAD notice, then the shed of the first ON candidate
with its SHED notice; none without a candidate. -/
def State.overloadShed (s : State) : State :=
  let t := s.onBudget fun b => { b with holdTimer := some (s.deadline b.settings.overloadHold) }
  match t.budget.firstInRank overloadCandidate with
  | none => t.post none (.overload s.budget.overAverage s.budget.settings.limit true)
  | some (c, r) =>
    let u := t.post (some c) (.overload s.budget.overAverage s.budget.settings.limit false)
    let v := u.shedChannel c .overload
    v.post (some c) (shedNotice u v c r .overload)

/-- OVERLOAD_HOLD_EXPIRY (R47). -/
def execOverloadHoldExpiry (s : State) : Host.Outcome State Fault Refusal :=
  live (fun s => if due s.budget.holdTimer s.uptime then s.overloadShed.settle else s) s

end Sys2Proof.Machine
end

