-- ==== Sys2Proof/Machine/Measure.lean ====
section
/-! DEFINITION. The Sampler and the deliveries of its rounds (chapter 4), with what the Channel Controllers (R15), the Budget
Manager (R29, R45), the Watch Unit (R85 to R91) and the Meter (R98 to R105) do with a round. -/

namespace Sys2Proof.Machine

/-! The Sampler (R69 to R76). -/

/-- A channel sample record (R70, R71): readings stop at full scale, and the power is formed from them. -/
def sampleOf (bus stamp : Nat) (r : Reading) : Sample where
  current := min r.current fullCurrent
  overFlag := overRange r.current
  voltage := min r.voltage fullVoltage
  power := samplePower (min r.current fullCurrent) (min r.voltage fullVoltage)
  bus := bus
  stamp := stamp

/-- The sample records of a round (R70 to R72). -/
def roundOf (stamp : Nat) (r : Readings) : Round :=
  let bus := min r.bus fullVoltage
  let samples := PerChan.ofFn fun c => sampleOf bus stamp (r.chans.get c)
  { samples := samples
    bus :=
      { voltage := bus
        total := (Chan.all.map fun c => (samples.get c).power).sum
        totalOver := Chan.all.any fun c => (samples.get c).overFlag
        stamp := stamp } }

/-- A reporting block that begins (R75). -/
def Block.start (window : Nat) : Block where
  window := window
  count := 0
  currentSum := 0
  voltageSum := 0
  powerSum := 0
  overFlag := false

/-- The block with a sample added to its sums (R75). -/
def Block.add (b : Block) (x : Sample) : Block :=
  { b with
    count := b.count + 1
    currentSum := b.currentSum + x.current
    voltageSum := b.voltageSum + x.voltage
    powerSum := b.powerSum + x.power
    overFlag := b.overFlag || x.overFlag }

/-- The block result of a completed block (R76). -/
def Block.result (b : Block) (stamp : Nat) : Result where
  valid := true
  window := b.window
  current := b.currentSum / b.window
  voltage := b.voltageSum / b.window
  power := b.powerSum / b.window
  overFlag := b.overFlag
  stamp := stamp

/-- The block is complete: its count has reached its window (R75). -/
def Block.complete (b : Block) : Bool := decide (b.window ≤ b.count)

/-- The reporting block after a sample (R75). -/
def Block.next (b : Block) (x : Sample) : Block :=
  if (b.add x).complete then Block.start b.window else b.add x

/-- The reporting result after a sample (R76). -/
def Block.resultAfter (b : Block) (old : Result) (x : Sample) : Result :=
  if (b.add x).complete then (b.add x).result x.stamp else old

/-- The completion of a round at the Sampler (R69, R74 to R76). -/
def Sampler.complete (p : Sampler) (r : Round) : Sampler where
  round := none
  latest := r
  latestValid := true
  blocks := PerChan.ofFn fun c => (p.blocks.get c).next (r.samples.get c)
  results := PerChan.ofFn fun c => (p.blocks.get c).resultAfter (p.results.get c) (r.samples.get c)

/-- A completed round is delivered to every consumer (R73). -/
def Deliveries.push (d : Deliveries) (r : Round) : Deliveries where
  toChannels := PerChan.ofFn fun c => d.toChannels.get c ++ [r.samples.get c]
  toBudget := d.toBudget ++ [r.bus]
  toWatch := d.toWatch ++ [r]
  toMeter := d.toMeter ++ [r]

/-- A reporting result before the first block completes (R76). -/
def Result.start (window : Nat) : Result where
  valid := false
  window := window
  current := 0
  voltage := 0
  power := 0
  overFlag := false
  stamp := 0

/-- The Sampler at a start: the first round begins at uptime 0 (R80, R81). -/
def Sampler.atStart (w : WorkingConfig) : Sampler where
  round := some 0
  latest := Round.zero
  latestValid := false
  blocks := PerChan.ofFn fun c => Block.start (w.channels.get c).reportWindow
  results := PerChan.ofFn fun c => Result.start (w.channels.get c).reportWindow

/-- A new report window abandons the block in progress; the result is kept with its own window (R77). DESIGN CHOICE (log 34):
so too while no block has completed, where R76 has the result read the report window in force. -/
def Sampler.setWindow (p : Sampler) (c : Chan) (old new : Nat) : Sampler :=
  if old = new then p else { p with blocks := p.blocks.set c (Block.start new) }

/-- The completion event of the round in progress (R69). -/
def State.completeRound (s : State) (readings : Readings) : State :=
  match s.sampler.round with
  | none => s
  | some stamp =>
    let r := roundOf stamp readings
    { s.afterBoundary with sampler := s.sampler.complete r, deliveries := s.deliveries.push r }

/-- ROUND_COMPLETE. -/
def execRoundComplete (readings : Readings) (s : State) : Host.Outcome State Fault Refusal :=
  live (fun s => s.completeRound readings) s

/-! A Channel Controller (R15, R74). -/

/-- The sample arrival at a channel: kept as the latest arrival, and in STARTING the good-level test (R14, R15, R74). DESIGN
CHOICE (log 32): the test takes the bus voltage of the round itself, as R15 says, also while the Budget Manager has not yet
taken that round and its bus-good flag still reads no (R29). -/
def State.takeSample (s : State) (c : Chan) (x : Sample) : State :=
  let t := s.onChan c fun k => { k with latest := x }
  if (s.chan c).state = .starting
      ∧ goodLevelMet (s.chan c).cfg.goodLevel s.budget.settings.busMinimum x.voltage x.bus = true then
    t.enterOn c
  else t

/-- The channel takes its oldest round delivery (R73). -/
def State.deliverChannel (s : State) (c : Chan) : State :=
  match s.deliveries.toChannels.get c with
  | [] => s
  | x :: rest =>
    let d := { s.deliveries with toChannels := s.deliveries.toChannels.set c rest }
    ({ s.afterBoundary with deliveries := d }.takeSample c x).settle

/-- ROUND_DELIVERY_CHANNEL. -/
def execRoundDeliveryChannel (c : Chan) (s : State) : Host.Outcome State Fault Refusal :=
  live (fun s => s.deliverChannel c) s

/-! The Budget Manager (R29, R45, R46). -/

/-- The bus sample arrival: the bus-good flag, then the overload block. -/
def Budget.takeSample (b : Budget) (x : BusSample) (holdExpiry : Nat) : Budget :=
  ({ b with lastBus := some x.voltage }.setBusGood (busGoodFlag x.voltage b.settings.busMinimum)).addRound x.total holdExpiry

/-- The Budget Manager takes its oldest round delivery (R73). -/
def State.deliverBudget (s : State) : State :=
  match s.deliveries.toBudget with
  | [] => s
  | x :: rest =>
    let t := { s.afterBoundary with deliveries := { s.deliveries with toBudget := rest } }
    (t.onBudget fun b => b.takeSample x (t.deadline b.settings.overloadHold)).settle

/-- ROUND_DELIVERY_BUDGET. -/
def execRoundDeliveryBudget (s : State) : Host.Outcome State Fault Refusal := live State.deliverBudget s

/-! The Watch Unit (R85 to R91). -/

/-- The value a watch takes from a round, with its over-range indication (R85). -/
def watchValue (cfg : WatchConfig) (r : Round) : Nat × Bool :=
  match cfg.source, cfg.quantity with
  | .chan c, .current => ((r.samples.get c).current, (r.samples.get c).overFlag)
  | .chan c, .voltage => ((r.samples.get c).voltage, false)
  | .chan c, .power => ((r.samples.get c).power, (r.samples.get c).overFlag)
  | .bus, _ => (r.bus.voltage, false)
  | .total, _ => (r.bus.total, r.bus.totalOver)

/-- The record with a value added to its block (R86). -/
def Watch.add (w : Watch) (v : Nat × Bool) : Watch :=
  { w with count := w.count + 1, sum := w.sum + v.1, overFlag := w.overFlag || v.2 }

/-- The block of the record is complete (R86). -/
def Watch.complete (w : Watch) : Bool := decide (w.cfg.window ≤ w.count)

/-- The block average, any remainder discarded (R86). -/
def Watch.average (w : Watch) : Nat := w.sum / w.cfg.window

/-- The record after its block has completed: the last average, and a new block (R86). -/
def Watch.closeBlock (w : Watch) (stamp : Nat) : Watch :=
  { w with
    count := 0
    sum := 0
    overFlag := false
    last := { valid := true, value := w.average, overFlag := w.overFlag, stamp := stamp } }

/-- The record after a rise (R88 step 1). -/
def Watch.rise (w : Watch) : Watch := { w with level := .high, raised := true, rises := satAdd 65535 w.rises 1 }

/-- The record after a fall (R90). -/
def Watch.fall (w : Watch) : Watch :=
  { w with level := .low, raised := match w.cfg.mode with | .live => false | .latched => w.raised }

/-- The WATCH notice of a record (R91). -/
def watchNotice (n : Nat) (direction : Direction) (w : Watch) (status : Option Status) : NoticeBody :=
  .watch n direction w.cfg w.last.value w.last.overFlag w.last.stamp status w.raised w.rises

/-- The action of a rise, with the status the target returned, and the scan at the end of the channel's part (R89). -/
def State.watchAction (s : State) (n : Nat) (action : WatchAction) : State × Option Status :=
  match action with
  | .notify => (s, none)
  | .switchOff c =>
    let r := s.requestOff c .watch
    (r.1.runScan, some r.2)
  | .latch c =>
    let r := s.latchAction c n
    (r.1.runScan, some r.2)

/-- Write a watch record. -/
def State.setWatch (s : State) (n : Nat) (w : Option Watch) : State := { s with watches := s.watches.set n w }

/-- A rise (R88): the record, the action, the notice. -/
def State.watchRise (s : State) (n : Nat) (w : Watch) : State :=
  let r := (s.setWatch n (some w.rise)).watchAction n w.cfg.action
  r.1.post (WatchAction.target? w.cfg.action) (watchNotice n .rise w.rise r.2)

/-- A fall (R90): in LIVE mode a notice. -/
def State.watchFall (s : State) (n : Nat) (w : Watch) : State :=
  let t := s.setWatch n (some w.fall)
  match w.cfg.mode with
  | .live => t.post (WatchAction.target? w.cfg.action) (watchNotice n .fall w.fall none)
  | .latched => t

/-- A completed block is judged (R87). -/
def State.judgeWatch (s : State) (n : Nat) (w : Watch) : State :=
  match w.level, watchLevelAfter w.cfg w.level w.last.value w.last.overFlag with
  | .low, .high => s.watchRise n w
  | .high, .low => s.watchFall n w
  | _, _ => s.setWatch n (some w)

/-- One record takes a round (R86). -/
def State.watchRecord (s : State) (r : Round) (n : Nat) : State :=
  match s.watches.getD n none with
  | none => s
  | some w =>
    let w := w.add (watchValue w.cfg r)
    if w.complete then s.judgeWatch n (w.closeBlock r.bus.stamp) else s.setWatch n (some w)

/-- Several records take a round, one at a time (R91). -/
def State.watchRecords (s : State) (r : Round) : List Nat → State
  | [] => s
  | n :: rest => (s.watchRecord r n).watchRecords r rest

/-- The Watch Unit takes its oldest round delivery, records in ascending number (R73, R91). -/
def State.deliverWatch (s : State) : State :=
  match s.deliveries.toWatch with
  | [] => s
  | r :: rest =>
    ({ s.afterBoundary with deliveries := { s.deliveries with toWatch := rest } }.watchRecords r (List.range 16)).settle

/-- ROUND_DELIVERY_WATCH. -/
def execRoundDeliveryWatch (s : State) : Host.Outcome State Fault Refusal := live State.deliverWatch s

/-! The Meter (R98 to R105). -/

/-- An energy accumulator at the start of a period (R103, R108). -/
def Accumulator.start (periodStart : Nat) : Accumulator where
  energy := 0
  rollover := 0
  residue := 0
  count := 0
  full := false
  overFlag := false
  periodStart := periodStart

/-- A cleared peak record (R104). -/
def Peak.start (periodStart : Nat) : Peak where
  current := 0
  currentStamp := 0
  currentOver := false
  power := 0
  powerStamp := 0
  powerOver := false
  periodStart := periodStart

/-- A cleared bus minimum record (R105). -/
def BusMinimum.start (periodStart : Nat) : BusMinimum where
  voltage := 65535
  stamp := 0
  periodStart := periodStart

/-- The Meter at a start (R108). -/
def Meter.atStart : Meter where
  energy := PerChan.ofFn fun _ => Accumulator.start 0
  peaks := PerChan.ofFn fun _ => Peak.start 0
  bus := BusMinimum.start 0
  snapshot := none

/-- The greatest sample count (R98). -/
def fullCount : Nat := 16777215

/-- The accumulator after a round (R99, R100). -/
def Accumulator.add (a : Accumulator) (x : Sample) : Accumulator :=
  if a.full then a
  else
    let residue := a.residue + x.power
    let energy := a.energy + residue / 1000
    { a with
      residue := residue % 1000
      energy := if 4294967295 < energy then energy - 4294967296 else energy
      rollover := if 4294967295 < energy then satAdd 65535 a.rollover 1 else a.rollover
      count := a.count + 1
      full := decide (fullCount ≤ a.count + 1)
      overFlag := a.overFlag || x.overFlag }

/-- The peak record after a round: a value strictly greater replaces the peak (R104). -/
def Peak.add (p : Peak) (x : Sample) : Peak :=
  { p with
    current := if p.current < x.current then x.current else p.current
    currentStamp := if p.current < x.current then x.stamp else p.currentStamp
    currentOver := if p.current < x.current then x.overFlag else p.currentOver
    power := if p.power < x.power then x.power else p.power
    powerStamp := if p.power < x.power then x.stamp else p.powerStamp
    powerOver := if p.power < x.power then x.overFlag else p.powerOver }

/-- The bus minimum after a round: a voltage strictly less replaces it (R105). -/
def BusMinimum.add (m : BusMinimum) (x : BusSample) : BusMinimum :=
  if x.voltage < m.voltage then { m with voltage := x.voltage, stamp := x.stamp } else m

/-- The Meter after a round (R99, R102, R104, R105). -/
def Meter.add (m : Meter) (r : Round) : Meter where
  energy := PerChan.ofFn fun c => (m.energy.get c).add (r.samples.get c)
  peaks := PerChan.ofFn fun c => (m.peaks.get c).add (r.samples.get c)
  bus := m.bus.add r.bus
  snapshot := some r.bus.stamp

/-- The ENERGY_FULL notices of the accumulators that have frozen in a round, ascending (R100). -/
def freezeNotices (before after : Meter) (stamp : Nat) : List (Option Chan × NoticeBody) :=
  (Chan.all.filter fun c => (after.energy.get c).full && !(before.energy.get c).full).map fun c =>
    let a := after.energy.get c
    (some c, .energyFull a.energy a.rollover a.count a.overFlag a.periodStart stamp)

/-- The Meter takes its oldest round delivery (R73). -/
def State.deliverMeter (s : State) : State :=
  match s.deliveries.toMeter with
  | [] => s
  | r :: rest =>
    let t := { s.afterBoundary with deliveries := { s.deliveries with toMeter := rest }, meter := s.meter.add r }
    (t.postAll (freezeNotices s.meter t.meter r.bus.stamp)).settle

/-- ROUND_DELIVERY_METER. -/
def execRoundDeliveryMeter (s : State) : Host.Outcome State Fault Refusal := live State.deliverMeter s

end Sys2Proof.Machine
end

