-- ==== Sys2Proof/Machine/ProfileOps.lean ====
section
/-! DEFINITION. The Profile Store (chapter 8): the check of the copies and the load at a start (R123 to R126), the save
sequence (R127, R128), and the two kinds of start: power-on (R132) and controller restart (R133 to R137), with the values
that every block takes. -/

namespace Sys2Proof.Machine

/-! The copies (R124, R125). -/

/-- A copy is valid when its check code equals the CRC-32 over its generation and contents (R124). -/
def checkCopy : Option StoredCopy → CopyRecord
  | none => { valid := false, generation := 0 }
  | some k =>
    if k.check = Config.crc32 k.generation k.contents then { valid := true, generation := k.generation }
    else { valid := false, generation := 0 }

/-- The current copy (the table of R125). -/
def chooseCopy (a b : CopyRecord) : Option CopyId :=
  match a.valid, b.valid with
  | true, true => if a.generation < b.generation then some .b else some .a
  | true, false => some .a
  | false, true => some .b
  | false, false => none

/-- The source of the working configuration (R125). -/
def sourceOf : Option CopyId → ProfileSource
  | some .a => .a
  | some .b => .b
  | none => .factory

/-- The stored copy of a name. -/
def Profile.store (p : Profile) : CopyId → Option StoredCopy
  | .a => p.storeA
  | .b => p.storeB

/-- Write a stored copy. -/
def Profile.setStore (p : Profile) (k : CopyId) (x : Option StoredCopy) : Profile :=
  match k with
  | .a => { p with storeA := x }
  | .b => { p with storeB := x }

/-- The copy record of a name (R124). -/
def Profile.record (p : Profile) : CopyId → CopyRecord
  | .a => p.recA
  | .b => p.recB

/-- Set a copy record. -/
def Profile.setRecord (p : Profile) (k : CopyId) (r : CopyRecord) : Profile :=
  match k with
  | .a => { p with recA := r }
  | .b => { p with recB := r }

/-- The Profile Store at a start: both copies checked, the current copy chosen, and the values of R126. -/
def Profile.start (p : Profile) : Profile :=
  let a := checkCopy p.storeA
  let b := checkCopy p.storeB
  let current := chooseCopy a b
  { p with
    recA := a
    recB := b
    current := current
    source := sourceOf current
    saveState := .idle
    target := none
    capture := none
    newGeneration := none
    writeFailed := false
    unsaved := current.isNone
    outcome := { outcome := .none, copy := none, generation := 0 }
    restartPending := none }

/-- The working configuration of a start: the contents of the current copy, or the factory values (R125). -/
def Profile.loaded (p : Profile) : WorkingConfig :=
  match p.current.bind p.store with
  | some k => k.contents
  | none => Config.factory

/-- The generation loaded, 0 for FACTORY (R137). -/
def Profile.loadedGeneration (p : Profile) : Nat := ((p.current.map p.record).map (·.generation)).getD 0

/-! The save sequence (R127, R128). -/

/-- A profile save is WRITING or VERIFYING (para 8.3.2). -/
def Profile.busy (p : Profile) : Bool := p.saveState != .idle

/-- The working configuration, captured from its owners (R123, R127). -/
def State.workingConfig (s : State) : WorkingConfig where
  channels := PerChan.ofFn fun c => (s.chan c).cfg
  budget := s.budget.settings
  watches := s.watches.map fun w => w.map (·.cfg)
  subscriptions := s.notices.subscriptions
  linkRate := s.link.configuredRate

/-- The target of a save: the copy that is not current, or A (R127). -/
def saveTarget : Option CopyId → CopyId
  | some .a => .b
  | some .b => .a
  | none => .a

/-- The generation of a save: one greater than the current copy's, or 1; none after the greatest (R127). -/
def Profile.nextGeneration (p : Profile) : Option Nat :=
  match p.current with
  | none => some 1
  | some k => if (p.record k).generation < 4294967295 then some ((p.record k).generation + 1) else none

/-- Steps 1 to 4 of an accepted PROFILE_SAVE (R127): the target copy is made invalid before anything is written. -/
def Profile.beginSave (p : Profile) (w : WorkingConfig) : Profile :=
  let k := saveTarget p.current
  { (p.setStore k none).setRecord k { valid := false, generation := 0 } with
    saveState := .writing
    target := some k
    capture := some w
    newGeneration := p.nextGeneration
    writeFailed := false }

/-- The capture as a whole copy with its check code (R124). -/
def wholeCopy (generation : Nat) (w : WorkingConfig) : StoredCopy where
  generation := generation
  contents := w
  check := Config.crc32 generation w

/-- What stands in the target when the write has ended (R127, R128). -/
def Profile.written (p : Profile) (result : WriteEnd) : Option StoredCopy :=
  match p.newGeneration, p.capture, result with
  | some g, some w, .complete => some (wholeCopy g w)
  | some _, some _, .reportedFailure found => found
  | some _, some _, .other found => found
  | _, _, _ => none

/-- The storage has reported the write as failed (R128). -/
def writeReported : WriteEnd → Bool
  | .reportedFailure _ => true
  | .complete | .other _ => false

/-- The end of the write (R128). -/
def Profile.endWrite (p : Profile) (result : WriteEnd) : Profile :=
  match p.target with
  | none => p
  | some k =>
    { p.setStore k (p.written result) with saveState := .verifying, writeFailed := writeReported result }

/-- The generation that a verify finds good: the read-back equals the capture with the new generation, the check code passes,
and no failed write was reported (R128). -/
def Profile.verified (p : Profile) (k : CopyId) : Option Nat :=
  match p.newGeneration, p.capture, p.store k with
  | some g, some w, some found => if p.writeFailed = false ∧ found = wholeCopy g w then some g else none
  | _, _, _ => none

/-- The end of the verify (R128), with the outcome. -/
def Profile.endVerify (p : Profile) (k : CopyId) : Profile :=
  let done : Profile := { p with saveState := .idle, target := none, newGeneration := none, writeFailed := false }
  match p.verified k with
  | some g =>
    { done.setRecord k { valid := true, generation := g } with
      current := some k
      unsaved := false
      outcome := { outcome := .ok, copy := some k, generation := g } }
  | none =>
    { (done.setStore k none).setRecord k { valid := false, generation := 0 } with
      outcome := { outcome := .writeFail, copy := some k, generation := 0 } }

/-- The PROFILE_SAVED notice of a save that has ended (R128). -/
def savedNotice (p : Profile) : NoticeBody :=
  .profileSaved p.outcome.outcome p.outcome.copy p.outcome.generation p.unsaved

/-- SAVE_WRITE_END (R128). -/
def execSaveWriteEnd (result : WriteEnd) (s : State) : Host.Outcome State Fault Refusal :=
  live (fun s => if s.profile.saveState = .writing then s.onProfile fun p => p.endWrite result else s) s

/-- The verify of a save ends (R128). -/
def State.verifyEnded (s : State) : State :=
  match s.profile.saveState, s.profile.target with
  | .verifying, some k =>
    let t := s.onProfile fun p => p.endVerify k
    (t.post none (savedNotice t.profile)).settle
  | _, _ => s

/-- SAVE_VERIFY_END (R128). -/
def execSaveVerifyEnd (s : State) : Host.Outcome State Fault Refusal := live State.verifyEnded s

/-! Starts. -/

/-- A watch record as loaded at a start (R96). -/
def Watch.loaded (cfg : WatchConfig) : Watch where
  cfg := cfg
  level := .low
  raised := false
  rises := 0
  count := 0
  sum := 0
  overFlag := false
  last := { valid := false, value := 0, overFlag := false, stamp := 0 }

/-- The channels in class order and then channel-number order (R31). -/
def classOrder (w : PerChan ChannelConfig) : List Chan :=
  [0, 1, 2, 3].flatMap fun k => Chan.all.filter fun c => (w.get c).cls == k

/-- The joins of a start, one channel at a time (R31, R132, R135): a channel whose allowance exceeds the limit is not joined
and is OFF with reason BUDGET. The channels joined come with the state. -/
def State.startJoins (origin : Origin) : List Chan → State → State × List Chan
  | [], s => (s, [])
  | c :: rest, s =>
    if (s.chan c).cfg.allowance ≤ s.budget.settings.limit then
      let r := State.startJoins origin rest (s.joinQueue c origin)
      (r.1, c :: r.2)
    else State.startJoins origin rest (s.onChan c fun k => { k with state := .off, lastOff := .budget })

/-- A set of channels in ascending number. -/
def ascending (cs : List Chan) : List Chan := Chan.all.filter fun c => cs.contains c

/-- A channel at power-on (R25, R67, R74). -/
def Channel.atPowerOn (cfg : ChannelConfig) : Channel :=
  { Channel.reset with cfg := cfg, state := if cfg.enabled then .off else .disabled }

/-- The values every block takes at power-on, before the joins (R25, R51, R80, R96, R108, R120, R126, R156, R172). -/
def State.atPowerOn (s : State) : State :=
  let p := { s.profile with resetLevel := s.pins.reset, resetFilter := none }.start
  let w := p.loaded
  { s with
    powered := true
    uptime := 0
    within := false
    chans := PerChan.ofFn fun c => Channel.atPowerOn (w.channels.get c)
    budget := { s.budget.atStart w.budget with shedLevel := s.pins.shed, shedFilter := none }
    sampler := Sampler.atStart w
    deliveries := Deliveries.empty
    watches := w.watches.map fun x => x.map Watch.loaded
    meter := Meter.atStart
    schedule := []
    profile := p
    link := s.link.atStart w.linkRate
      { crcErrors := 0, framingAborts := 0, overrunDiscards := 0, duplicatesReplied := 0, duplicatesDiscarded := 0 }
    notices := s.notices.atStart w.subscriptions }

/-- The auto-start channels, in the order of their joins (R132). -/
def autoStarts (w : PerChan ChannelConfig) : List Chan :=
  (classOrder w).filter fun c => (w.get c).enabled && (w.get c).autoStart

/-- Power-on (R132): the start, the auto-start joins, the RESTARTED notice (R137), and the scan, which grants nothing
(R51). -/
def State.powerOn (s : State) : State :=
  let t := s.atPowerOn
  let r := State.startJoins .profile (autoStarts t.profile.loaded.channels) t
  (r.1.post none
    (.restarted .powerOn t.profile.source t.profile.loadedGeneration (ascending r.2) [] [] [] t.budget.shedLevel)).settle

/-- The state of a channel after a controller restart, before the RESTART joins (the table of R135). -/
def restartState (enabled : Bool) (before : ChState) : ChState :=
  if enabled then
    match before with
    | .on => .on
    | .latched => .latched
    | .disabled | .off | .queued | .starting | .cycleOff | .cooldown => .off
  else .disabled

/-- The restart ends the channel's power, entry or cooldown, so its last off reason is RESTART (R5, R135). -/
def restartEnds (enabled : Bool) (before : ChState) : Bool :=
  match before with
  | .queued | .starting | .cycleOff | .cooldown => true
  | .on => !enabled
  | .disabled | .off | .latched => false

/-- A channel at a controller restart, before the RESTART joins (R67, R74, R135); uptime is 0. -/
def Channel.atRestart (k : Channel) (cfg : ChannelConfig) : Channel :=
  let held := cfg.enabled && k.state == .on
  { k with
    cfg := cfg
    state := restartState cfg.enabled k.state
    gate := if held then .full else .off
    retryCount := 0
    grantStamp := 0
    onSince := 0
    cyclePending := none
    cycleReturnWaiting := false
    timer := if held then .retryWindow (1000 * cfg.retryWindow) else .none
    lastOff := if restartEnds cfg.enabled k.state then .restart else k.lastOff
    comparator := if held then k.comparator.arm cfg else k.comparator.disarm
    latest := Sample.zero
    trips := [] }

/-- The reservation record of a held channel (R136 step 1). -/
def heldRecord (k : Channel) : Option Reservation :=
  if k.state = .on then
    some
      { amount := k.cfg.allowance, cls := k.cfg.cls, grantStamp := 0, phase := .on, slot := false, grantTaken := false
        claimWaiting := false }
  else none

/-- A filter timer of a length that runs on through a controller restart keeps the time it still had to run, measured afresh from
uptime 0 (R42, R133): the milliseconds from the uptime of the restart to its expiry, and no more than its length. DESIGN CHOICE
(log 38): the model keeps no part of a millisecond, so what had elapsed of the restart's own is not taken off. -/
def rebase (timer : Option Nat) (length now : Nat) : Option Nat := timer.map fun e => min length (e - now)

/-- The values every block takes at a controller restart, before the joins (R52, R67, R81, R96, R108, R120, R126, R135,
R136 step 1, R156, R172). -/
def State.atRestart (s : State) : State :=
  let p := { s.profile with resetFilter := rebase s.profile.resetFilter resetFilterTime s.uptime }.start
  let w := p.loaded
  let chans := PerChan.ofFn fun c => (s.chan c).atRestart (w.channels.get c)
  { s with
    uptime := 0
    within := false
    chans := chans
    budget :=
      { s.budget.atStart w.budget with
        records := PerChan.ofFn fun c => heldRecord (chans.get c)
        shedFilter := rebase s.budget.shedFilter shedFilterTime s.uptime }
    sampler := Sampler.atStart w
    deliveries := Deliveries.empty
    watches := w.watches.map fun x => x.map Watch.loaded
    meter := Meter.atStart
    schedule := []
    profile := p
    link := s.link.atStart w.linkRate s.link.stats
    notices := s.notices.atStart w.subscriptions }

/-- The channels that a controller restart re-queues, in the order of their joins (R135). -/
def restartJoins (before : PerChan Channel) (w : PerChan ChannelConfig) : List Chan :=
  (classOrder w).filter fun c =>
    (w.get c).enabled &&
      match (before.get c).state with
      | .starting | .cycleOff | .queued => true
      | .disabled | .off | .on | .cooldown | .latched => false

/-- The sheds of a controller restart: the excess, then the SHED line when its level is ASSERTED (R136 steps 3 and 4). -/
def State.restartSheds (s : State) : State × List (Chan × NoticeBody) :=
  let a := s.shedExcess
  if a.1.budget.shedLevel = .asserted then
    let b := a.1.shedForLine
    (b.1, a.2 ++ b.2)
  else a

/-- The channels held ON that the sheds have left (R137). -/
def heldSet (s : State) : List Chan := Chan.all.filter fun c => (s.chan c).state == .on

/-- A controller restart (R135 to R137): the values of the blocks, the joins, the sheds, the RESTARTED notice before the SHED
notices, and the scan, which grants nothing (R136 step 5). -/
def State.controllerRestart (s : State) (cause : RestartCause) : State :=
  let t := s.atRestart
  let j := State.startJoins .restart (restartJoins s.chans t.profile.loaded.channels) t
  let d := j.1.restartSheds
  ((d.1.post none
      (.restarted cause t.profile.source t.profile.loadedGeneration [] (heldSet d.1) (ascending j.2) (shedSet d.2)
        t.budget.shedLevel)).postSheds d.2).settle

/-- The part without its logic supply: only the non-volatile copies and the lines remain (R129; log 3). -/
def State.powerLost (s : State) : State :=
  { State.reset with
    powered := false
    draws := s.draws
    pins := s.pins
    notices := { State.reset.notices with queue := [], nextNseq := 0, attn := .released }
    sampler := { State.reset.sampler with round := none }
    profile := { State.reset.profile with storeA := s.profile.storeA, storeB := s.profile.storeB }
    link := { State.reset.link with nextId := s.link.nextId }
    pending := s.pending }

end Sys2Proof.Machine
end

