-- ==== Sys2Proof/Machine/LinkRequests.lean ====
section
/-! DEFINITION. The requests that the Link Interface answers itself: an unassigned kind (R174), IDENTIFY (R155), LINK_STATUS
(R154) and LINK_CONFIG (R139). -/

namespace Sys2Proof.Machine

/-- A configuration request is accepted: the unsaved-changes flag becomes yes (R130). -/
def State.markUnsaved (s : State) : State := s.onProfile fun p => { p with unsaved := true }

/-- A frame of a KIND that is not assigned is answered UNKNOWN_KIND at its dispatch (R148 check 1, R174). -/
def State.dispatchUnknown (s : State) : State :=
  match s.link.oldestWaiting with
  | none => s
  | some e => if ReqKind.ofCode? e.kind = none then s.afterBoundary.reply e (answer .unknownKind []) else s

/-- UNKNOWN_KIND. -/
def execUnknownKind (s : State) : Host.Outcome State Fault Refusal := live State.dispatchUnknown s

/-- The fields of the reply to IDENTIFY (R155, R176). -/
def identity : List Byte :=
  be 2 Config.vendorCode ++ be 2 Config.partCode ++ be 1 Config.revision ++ be 4 Config.serialNumber.toNat

/-- IDENTIFY (R155). -/
def serveIdentify (_id : Nat) (_ : Unit) (s : State) : State × Answer := (s, answer .ok identity)

/-- IDENTIFY. -/
def execIdentify (s : State) : Host.Outcome State Fault Refusal :=
  live (State.dispatch .identify parseNothing serveIdentify) s

/-- Every link statistic at 0 (R153, R154). -/
def LinkStats.zero : LinkStats where
  crcErrors := 0
  framingAborts := 0
  overrunDiscards := 0
  duplicatesReplied := 0
  duplicatesDiscarded := 0

/-- The fields of the reply to LINK_STATUS (R154). -/
def linkStatusFields (l : Link) (clear : Bool) : List Byte :=
  be 2 l.stats.crcErrors ++ be 2 l.stats.framingAborts ++ be 2 l.stats.overrunDiscards ++ be 2 l.stats.duplicatesReplied
    ++ be 2 l.stats.duplicatesDiscarded ++ be 1 (LinkRate.code l.rateInUse) ++ be 1 (LinkRate.code l.configuredRate)
    ++ be 1 l.queue.length ++ be 1 l.replyList.length ++ be 1 (flagBits [clear])

/-- LINK_STATUS (R154): the statistics as they stand before any clear. -/
def serveLinkStatus (_id : Nat) (clear : Bool) (s : State) : State × Answer :=
  (if clear then s.onLink fun l => { l with stats := LinkStats.zero } else s, answer .ok (linkStatusFields s.link clear))

/-- LINK_STATUS. -/
def execLinkStatus (s : State) : Host.Outcome State Fault Refusal :=
  live (State.dispatch .linkStatus parseLinkStatus serveLinkStatus) s

/-- LINK_CONFIG (R139): the rate in use is not changed. -/
def serveLinkConfig (_id : Nat) (rate : LinkRate) (s : State) : State × Answer :=
  if s.profile.busy then (s, answer .profileBusy (be 1 0 ++ be 1 0))
  else
    ((s.onLink fun l => { l with configuredRate := rate }).markUnsaved,
      answer .ok (be 1 (LinkRate.code s.link.rateInUse) ++ be 1 (LinkRate.code rate)))

/-- LINK_CONFIG. -/
def execLinkConfig (s : State) : Host.Outcome State Fault Refusal :=
  live (State.dispatch .linkConfig parseLinkConfig serveLinkConfig) s

end Sys2Proof.Machine
end

