-- ==== Sys2Proof/Machine/BudgetRequests.lean ====
section
/-! DEFINITION. The requests of the Budget Manager: BUDGET_CONFIG (R48, R49) and BUDGET_QUERY (R50). -/

namespace Sys2Proof.Machine

/-- The refusals of BUDGET_CONFIG in their order (R48); `none` is acceptance. -/
def budgetRefusal (s : State) (settings : BudgetSettings) (force : Bool) : Option Status :=
  if s.profile.busy then some .profileBusy
  else if settings.slots < s.budget.slotsInUse then some .slotsInUse
  else if settings.limit < s.budget.committed ∧ force = false then some .budgetInUse
  else none

/-- A bypass count above the new bypass limit becomes the limit (R49 step 4). -/
def Budget.capBypass (b : Budget) : Budget :=
  { b with queue := b.queue.map fun e => { e with bypass := min e.bypass b.settings.bypassLimit } }

/-- The bus-good flag is tested against the bus minimum (R29, R49 step 5); before the first bus sample arrival it stays as it
is. -/
def Budget.retestBus (b : Budget) : Budget :=
  match b.lastBus with
  | none => b
  | some v => b.setBusGood (busGoodFlag v b.settings.busMinimum)

/-- Steps 1 to 7 of an accepted BUDGET_CONFIG, the scan marked as due (R49), with the channels shed and removed. -/
def State.applyBudget (s : State) (settings : BudgetSettings) : State × List Chan × List Chan :=
  let d := (s.onBudget fun b => { b with settings := settings }).shedExcess
  let t := d.1.postSheds d.2
  let removed := t.budget.tooLarge
  let u := (t.removeEntries removed).onBudget fun b => b.capBypass.retestBus
  ((u.markUnsaved).onBudget fun b => { b with scanDue := true }, shedSet d.2, removed)

/-- Committed and headroom as reported (R48, R49). -/
def totalsFields (b : Budget) : List Byte := be 2 b.committed ++ be 2 b.headroom

/-- BUDGET_CONFIG (R48, R49): the totals of the reply are those before any grant of the scan. -/
def serveBudgetConfig (_id : Nat) (x : BudgetSettings × Bool) (s : State) : State × Answer :=
  match budgetRefusal s x.1 x.2 with
  | some status => (s, answer status (totalsFields s.budget ++ be 1 0 ++ be 1 0))
  | none =>
    let r := s.applyBudget x.1
    (r.1, answer .ok (totalsFields r.1.budget ++ be 1 (maskOf r.2.1) ++ be 1 (maskOf r.2.2)))

/-- BUDGET_CONFIG. -/
def execBudgetConfig (s : State) : Host.Outcome State Fault Refusal :=
  live (State.dispatch .budgetConfig parseBudgetConfig serveBudgetConfig) s

/-- The fields of the reply to BUDGET_QUERY (R50). -/
def budgetFields (b : Budget) (now : Nat) : List Byte :=
  budgetBlock b.settings ++ totalsFields b ++ be 1 b.slotsInUse
    ++ be 1 (flagBits [b.busGood, b.shedLevel == .asserted, b.holdTimer.isSome]) ++ be 4 b.overAverage
    ++ be 2 (remaining b.holdTimer now) ++ be 1 b.claims.length ++ (b.claims.flatMap fun x => be 1 x.chan.toNat)
    ++ be 1 b.queue.length ++ b.queue.flatMap waitingEntry

/-- BUDGET_QUERY (R50). -/
def serveBudgetQuery (_id : Nat) (_ : Unit) (s : State) : State × Answer := (s, answer .ok (budgetFields s.budget s.uptime))

/-- BUDGET_QUERY. -/
def execBudgetQuery (s : State) : Host.Outcome State Fault Refusal :=
  live (State.dispatch .budgetQuery parseNothing serveBudgetQuery) s

end Sys2Proof.Machine
end

