-- ==== Sys2Proof/Machine/ChannelRequests.lean ====
section
/-! DEFINITION. The requests of a Channel Controller: CHANNEL_CONFIG (R22, R23), CHANNEL_QUERY (R24), and the four channel
requests of origin HOST (R12). -/

namespace Sys2Proof.Machine

/-- The state in which a channel holds no queue entry, reservation or running timer, so that it may be configured (R22). -/
def ChState.configurable : ChState → Bool
  | .disabled | .off | .latched => true
  | .queued | .starting | .on | .cycleOff | .cooldown => false

/-- The state after an accepted CHANNEL_CONFIG (the table of R23). -/
def configuredState (before : ChState) (enabled : Bool) : ChState :=
  if enabled then
    match before with
    | .disabled => .off
    | .off | .queued | .starting | .on | .cycleOff | .cooldown | .latched => before
  else .disabled

/-- A channel under an accepted CHANNEL_CONFIG (R23). -/
def Channel.configure (k : Channel) (cfg : ChannelConfig) : Channel :=
  { k with
    cfg := cfg
    state := configuredState k.state cfg.enabled
    retryCount :=
      if cfg.enabled = false ∧ k.state ≠ .disabled then 0 else min k.retryCount cfg.retryLimit
    lastOff := if cfg.enabled = true ∧ k.state = .disabled then .none else k.lastOff }

/-- The fields of the reply to CHANNEL_CONFIG (R22, R23). -/
def configFields (s : State) (c : Chan) : List Byte := be 1 c.toNat ++ be 1 (ChState.code (s.chan c).state)

/-- An accepted CHANNEL_CONFIG (R23, R77). -/
def State.configureChannel (s : State) (c : Chan) (cfg : ChannelConfig) : State :=
  ({ s with sampler := s.sampler.setWindow c (s.chan c).cfg.reportWindow cfg.reportWindow }.onChan c fun k =>
    k.configure cfg).markUnsaved

/-- CHANNEL_CONFIG (R22). -/
def serveChannelConfig (_id : Nat) (x : Chan × ChannelConfig) (s : State) : State × Answer :=
  if s.profile.busy then (s, answer .profileBusy (configFields s x.1))
  else if ChState.configurable (s.chan x.1).state then
    let t := s.configureChannel x.1 x.2
    (t, answer .ok (configFields t x.1))
  else (s, answer .inUse (configFields s x.1))

/-- CHANNEL_CONFIG. -/
def execChannelConfig (s : State) : Host.Outcome State Fault Refusal :=
  live (State.dispatch .channelConfig parseChannelConfig serveChannelConfig) s

/-- CHANNEL_QUERY (R24). -/
def serveChannelQuery (_id : Nat) (cs : List Chan) (s : State) : State × Answer :=
  (s, answer .ok (cs.flatMap fun c => channelRecord s.uptime c (s.chan c)))

/-- CHANNEL_QUERY. -/
def execChannelQuery (s : State) : Host.Outcome State Fault Refusal :=
  live (State.dispatch .channelQuery parseChannelQuery serveChannelQuery) s

/-- The fields of the reply to a channel request: the channel, and its state and cycle pending flag as the request left them
(R12). -/
def requestFields (s : State) (c : Chan) : List Byte :=
  be 1 c.toNat ++ be 1 (ChState.code (s.chan c).state) ++ be 1 (flagBits [(s.chan c).cyclePending.isSome])

/-- The outcome of a channel request of origin HOST as an answer (R12). -/
def requestAnswer (c : Chan) (r : State × Status) : State × Answer := (r.1, answer r.2 (requestFields r.1 c))

/-- CHANNEL_ON (R8). -/
def serveChannelOn (_id : Nat) (c : Chan) (s : State) : State × Answer := requestAnswer c (s.requestOn c .host)

/-- CHANNEL_ON. -/
def execChannelOn (s : State) : Host.Outcome State Fault Refusal :=
  live (State.dispatch .channelOn parseChan serveChannelOn) s

/-- CHANNEL_OFF (R9). -/
def serveChannelOff (_id : Nat) (c : Chan) (s : State) : State × Answer := requestAnswer c (s.requestOff c .host)

/-- CHANNEL_OFF. -/
def execChannelOff (s : State) : Host.Outcome State Fault Refusal :=
  live (State.dispatch .channelOff parseChan serveChannelOff) s

/-- CHANNEL_CYCLE (R10): an accepted one awaits its signal (R151). -/
def serveChannelCycle (id : Nat) (c : Chan) (s : State) : State × Answer :=
  let r := requestAnswer c (s.requestCycleHost c id)
  if r.2.status = .ok then (r.1, { r.2 with awaiting := .cycle c }) else r

/-- CHANNEL_CYCLE. -/
def execChannelCycle (s : State) : Host.Outcome State Fault Refusal :=
  live (State.dispatch .channelCycle parseChan serveChannelCycle) s

/-- CHANNEL_CLEAR (R11). -/
def serveChannelClear (_id : Nat) (c : Chan) (s : State) : State × Answer := requestAnswer c (s.requestClear c)

/-- CHANNEL_CLEAR. -/
def execChannelClear (s : State) : Host.Outcome State Fault Refusal :=
  live (State.dispatch .channelClear parseChan serveChannelClear) s

end Sys2Proof.Machine
end

