-- ==== Sys2Proof/Machine/Grants.lean ====
section
/-! DEFINITION. The events that reach a channel from the Budget Manager and the Link Interface: the grants (R13, R36) and the
signals of a host CYCLE (R18). -/

namespace Sys2Proof.Machine

/-- The channel's record shows a grant in transit (R28, R36). -/
def Budget.grantPending (b : Budget) (c : Chan) : Bool :=
  match b.records.get c with
  | some r => decide (r.phase = .starting) && !r.grantTaken
  | none => false

/-- A grant is taken out of transit. -/
def State.removeGrant (s : State) (g : Grant) : State := s.onBudget fun b => { b with grants := b.grants.erase g }

/-- A queue grant that reaches its channel (R13, R36): taken in QUEUED when it names the current entry's join number. -/
def State.takeQueueGrant (s : State) (c : Chan) (join : Nat) : State :=
  if Grant.queue c join ∈ s.budget.grants then
    let t := s.removeGrant (.queue c join)
    if (s.chan c).state = .queued ∧ (s.chan c).joinNumber = join ∧ s.budget.grantPending c = true then
      (t.enterStarting c .grant).settle
    else t
  else s

/-- QUEUE_GRANT. -/
def execQueueGrant (c : Chan) (join : Nat) (s : State) : Host.Outcome State Fault Refusal :=
  live (fun s => s.takeQueueGrant c join) s

/-- A cycle-return grant that reaches its channel (R13, R36): taken in CYCLE_OFF with cycle return waiting when it names the
current claim's number. -/
def State.takeCycleGrant (s : State) (c : Chan) (claim : Nat) : State :=
  if Grant.cycleReturn c claim ∈ s.budget.grants then
    let t := s.removeGrant (.cycleReturn c claim)
    if (s.chan c).state = .cycleOff ∧ (s.chan c).cycleReturnWaiting = true ∧ (s.chan c).claimNumber = claim
        ∧ s.budget.grantPending c = true then
      (t.enterStarting c .cycleReturn).settle
    else t
  else s

/-- CYCLE_RETURN_GRANT. -/
def execCycleReturnGrant (c : Chan) (claim : Nat) (s : State) : Host.Outcome State Fault Refusal :=
  live (fun s => s.takeCycleGrant c claim) s

/-- A signal is taken out of transit. -/
def State.removeSignal (s : State) (x : ReplySignal) : State := s.onLink fun l => { l with signals := l.signals.erase x }

/-- A signal for a CHANNEL_CYCLE reaches its channel (R18): in ON with cycle pending set by that request it moves the channel
to CYCLE_OFF, with a CHANNEL_STATE notice of cause CYCLE_BEGIN; else it has no effect. DESIGN CHOICE (log 31): either signal
is taken after the millisecond boundary, also a reply-discarded signal that a break timer's expiry at the boundary has given,
so the cycle timer is started there (R1). -/
def State.takeCycleSignal (s : State) (c : Chan) (request : Nat) (fate : ReplyFate) : State :=
  if ({ target := .cycle c, request := request, fate := fate } : ReplySignal) ∈ s.link.signals then
    let t := s.afterBoundary.removeSignal { target := .cycle c, request := request, fate := fate }
    if (s.chan c).state = .on ∧ (s.chan c).cyclePending = some request then
      ((t.enterCycleOff c).postChange c .on .cycleBegin).settle
    else t
  else s

/-- REPLY_SENT_CYCLE (R18). -/
def execReplySentCycle (c : Chan) (request : Nat) (s : State) : Host.Outcome State Fault Refusal :=
  live (fun s => s.takeCycleSignal c request .sent) s

/-- REPLY_DISCARDED_CYCLE (R18). -/
def execReplyDiscardedCycle (c : Chan) (request : Nat) (s : State) : Host.Outcome State Fault Refusal :=
  live (fun s => s.takeCycleSignal c request .discarded) s

end Sys2Proof.Machine
end

