-- ==== Sys2Proof/Machine/LinkEvents.lean ====
section
/-! DEFINITION. The events of the serial line (R140 to R143, R150, R152). -/

namespace Sys2Proof.Machine

/-- The expiry uptime of the 5 ms gap timer started now, a character being taken after the boundary (R141). -/
def State.gapExpiry (s : State) : Nat := s.afterBoundary.deadline 5

/-- A character without a character error is taken (R140): the receiver does not take it while it waits for the line to
return high after a break (R143). -/
def State.takeCharacter (s : State) (char : Byte) : State :=
  if s.link.takesCharacters then (s.afterBoundary.onLink fun l => l.takeCharacter char s.gapExpiry).settle else s

/-- CHARACTER_RECEIVED (R140). -/
def execCharacterReceived (char : Byte) (s : State) : Host.Outcome State Fault Refusal :=
  live (fun s => s.takeCharacter char) s

/-- RECEIVE_CHARACTER_ERROR (R140). -/
def execReceiveCharacterError (s : State) : Host.Outcome State Fault Refusal :=
  live (fun s => if s.link.takesCharacters then s.afterBoundary.onLink Link.takeError else s) s

/-- The receiver is in LENGTH (R140). -/
def Link.awaitsLen (l : Link) : Bool := l.receiver == .length

/-- FRAME_ABANDON_BAD_LEN (R140): a LEN byte out of range is taken in LENGTH. -/
def execFrameAbandonBadLen (len : Byte) (s : State) : Host.Outcome State Fault Refusal :=
  live (fun s =>
    if s.link.takesCharacters && s.link.awaitsLen && (decide (len.toNat < 2) || decide (250 < len.toNat)) then
      s.afterBoundary.onLink Link.abandon
    else s) s

/-- GAP_TIMER_EXPIRY (R141). -/
def execGapTimerExpiry (s : State) : Host.Outcome State Fault Refusal :=
  live (fun s => if due s.link.gapTimer s.uptime && s.link.inFrame then s.onLink Link.abandon else s) s

/-- The second check byte completes the frame in CHECK (R142). -/
def State.completeFrame (s : State) (last : Byte) : State :=
  match s.link.receiver with
  | .check len body (some first) =>
    if s.link.takesCharacters then (s.afterBoundary.onLink fun l => l.frameDone len body first last).settle else s
  | _ => s

/-- FRAME_COMPLETE (R142). -/
def execFrameComplete (last : Byte) (s : State) : Host.Outcome State Fault Refusal :=
  live (fun s => s.completeFrame last) s

/-- The break detector sees the receive line change (R143). -/
def Link.lineChanged (l : Link) (level : LineLevel) (breakExpiry : Nat) : Link :=
  match level with
  | .low => if l.breakWait then l else { l with breakTimer := some breakExpiry }
  | .high => { l with breakTimer := none, breakWait := false }

/-- The receive line takes a level (R143); a level it already has is no change. -/
def State.setReceiveLine (s : State) (level : LineLevel) : State :=
  if s.pins.receive = level then s
  else
    let t := { s with pins := { s.pins with receive := level } }
    if s.powered then t.onLink fun l => l.lineChanged level (s.deadline 20) else t

/-- RECEIVE_LINE_CHANGE (R143). -/
def execReceiveLineChange (level : LineLevel) (s : State) : Host.Outcome State Fault Refusal :=
  .next (s.setReceiveLine level)

/-- BREAK_TIMER_EXPIRY (R143): a break makes a link restart. -/
def execBreakTimerExpiry (s : State) : Host.Outcome State Fault Refusal :=
  live (fun s => if due s.link.breakTimer s.uptime then s.linkRestart else s) s

/-- TRANSMIT_FRAME_END (R150). -/
def execTransmitFrameEnd (s : State) : Host.Outcome State Fault Refusal :=
  live (fun s => if s.link.tx = .idle then s else s.afterBoundary.frameLeft) s

end Sys2Proof.Machine
end

