-- ==== Sys2Proof/Machine/MeterRequests.lean ====
section
/-! DEFINITION. The requests of the Sampler and the Meter: MEASURE_READ (R78, R79), ENERGY_READ (R101 to R103) and PEAK_READ
(R106, R107). -/

namespace Sys2Proof.Machine

/-- MEASURE_READ (R78, R79). -/
def serveMeasureRead (_id : Nat) (cs : List Chan) (s : State) : State × Answer :=
  let p := s.sampler
  (s, answer .ok
    (be 1 (flagBits [p.latestValid, p.latest.bus.totalOver]) ++ be 2 p.latest.bus.voltage ++ be 6 p.latest.bus.stamp
      ++ be 4 p.latest.bus.total ++ cs.flatMap fun c => resultEntry c (p.results.get c)))

/-- MEASURE_READ. -/
def execMeasureRead (s : State) : Host.Outcome State Fault Refusal :=
  live (State.dispatch .measureRead parseMask serveMeasureRead) s

/-- The start of the period that a restart or a clear opens: one greater than the snapshot stamp, which is the stamp of the
next round, or 0 before the first round delivery (R103, R107). Past the greatest uptime it is the free value that uptime
takes there (log 12). -/
def Meter.nextPeriod (m : Meter) : Nat :=
  match m.snapshot with
  | some stamp => nextUptime stamp
  | none => 0

/-- The snapshot stamp as reported (R102, R106). While its valid flag is no the spec gives the field no value: a free value
(log 35), and then the counter of free values moves. -/
def State.reportSnapshot (s : State) : State × Nat :=
  match s.meter.snapshot with
  | some stamp => (s, stamp)
  | none => ({ s with draws := s.draws + 1 }, (Config.invalidSnapshot s.draws).toNat)

/-- The accumulators of some channels begin a new period (R103). -/
def Meter.restart (m : Meter) (cs : List Chan) : Meter :=
  { m with
    energy := PerChan.ofFn fun c => if cs.contains c then Accumulator.start m.nextPeriod else m.energy.get c }

/-- The peak records of some channels, and with the bus flag the bus minimum, begin a new period (R107). -/
def Meter.clear (m : Meter) (cs : List Chan) (bus : Bool) : Meter :=
  { m with
    peaks := PerChan.ofFn fun c => if cs.contains c then Peak.start m.nextPeriod else m.peaks.get c
    bus := if bus then BusMinimum.start m.nextPeriod else m.bus }

/-- ENERGY_READ (R101 to R103): the values are those before any restart. -/
def serveEnergyRead (_id : Nat) (x : List Chan × Bool) (s : State) : State × Answer :=
  let t := s.reportSnapshot
  (if x.2 then { t.1 with meter := s.meter.restart x.1 } else t.1,
    answer .ok
      (be 1 (flagBits [s.meter.snapshot.isSome, x.2]) ++ be 6 t.2
        ++ x.1.flatMap fun c => energyEntry c (s.meter.energy.get c)))

/-- ENERGY_READ. -/
def execEnergyRead (s : State) : Host.Outcome State Fault Refusal :=
  live (State.dispatch .energyRead parseEnergyRead serveEnergyRead) s

/-- The bus part of the reply to PEAK_READ (R106). -/
def busMinimumFields (m : BusMinimum) : List Byte := be 2 m.voltage ++ be 6 m.stamp ++ be 6 m.periodStart

/-- PEAK_READ (R106, R107): the operands are the channels, the bus flag and the clear flag; the values are those before any
clear. -/
def servePeakRead (_id : Nat) (x : List Chan × Bool × Bool) (s : State) : State × Answer :=
  let t := s.reportSnapshot
  (if x.2.2 then { t.1 with meter := s.meter.clear x.1 x.2.1 } else t.1,
    answer .ok
      (be 1 (flagBits [s.meter.snapshot.isSome, x.2.2, x.2.1]) ++ be 6 t.2
        ++ (x.1.flatMap fun c => peakEntry c (s.meter.peaks.get c))
        ++ (if x.2.1 then busMinimumFields s.meter.bus else [])))

/-- PEAK_READ. -/
def execPeakRead (s : State) : Host.Outcome State Fault Refusal :=
  live (State.dispatch .peakRead parsePeakRead servePeakRead) s

end Sys2Proof.Machine
end

