-- ==== Sys2Proof/Machine/ProfileRequests.lean ====
section
/-! DEFINITION. The requests of the Profile Store: PROFILE_SAVE (R127), PROFILE_QUERY (R131) and RESTART (R134). -/

namespace Sys2Proof.Machine

/-- The refusals of PROFILE_SAVE in their order (R127); `none` is acceptance. -/
def saveRefusal (p : Profile) : Option Status :=
  if p.busy then some .profileBusy else if p.restartPending.isSome then some .busy else none

/-- The generation being written, as reported; there being none, a free value (log 13). -/
def Profile.writtenGeneration (p : Profile) : Nat := p.newGeneration.getD Config.exhaustedGeneration.toNat

/-- PROFILE_SAVE (R127). -/
def serveProfileSave (_id : Nat) (_ : Unit) (s : State) : State × Answer :=
  match saveRefusal s.profile with
  | some status => (s, answer status (be 1 (SaveState.code s.profile.saveState) ++ be 1 0 ++ be 4 0))
  | none =>
    let t := s.onProfile fun p => p.beginSave s.workingConfig
    (t, answer .started
      (be 1 (SaveState.code t.profile.saveState) ++ be 1 (copyCode? t.profile.target)
        ++ be 4 t.profile.writtenGeneration))

/-- PROFILE_SAVE. -/
def execProfileSave (s : State) : Host.Outcome State Fault Refusal :=
  live (State.dispatch .profileSave parseNothing serveProfileSave) s

/-- A copy record as reported (R131). -/
def copyFields (r : CopyRecord) : List Byte := be 1 (yesNo r.valid) ++ be 4 r.generation

/-- The fields of the reply to PROFILE_QUERY (R131). -/
def profileFields (p : Profile) : List Byte :=
  copyFields p.recA ++ copyFields p.recB ++ be 1 (copyCode? p.current) ++ be 1 (ProfileSource.code p.source)
    ++ be 1 (SaveState.code p.saveState) ++ be 1 (copyCode? p.target)
    ++ be 4 (if p.busy then p.writtenGeneration else 0) ++ be 1 (yesNo p.unsaved) ++ be 1 (SaveOutcome.code p.outcome.outcome)
    ++ be 1 (copyCode? p.outcome.copy) ++ be 4 p.outcome.generation

/-- PROFILE_QUERY (R131). -/
def serveProfileQuery (_id : Nat) (_ : Unit) (s : State) : State × Answer := (s, answer .ok (profileFields s.profile))

/-- PROFILE_QUERY. -/
def execProfileQuery (s : State) : Host.Outcome State Fault Refusal :=
  live (State.dispatch .profileQuery parseNothing serveProfileQuery) s

/-- RESTART (R134): an accepted one awaits its signal (R151). -/
def serveRestart (id : Nat) (_ : Unit) (s : State) : State × Answer :=
  if s.profile.busy then (s, answer .profileBusy [])
  else if s.profile.restartPending.isSome then (s, answer .already [])
  else
    (s.onProfile fun p => { p with restartPending := some id },
      { status := .ok, fields := [], awaiting := .restart })

/-- RESTART. -/
def execRestart (s : State) : Host.Outcome State Fault Refusal :=
  live (State.dispatch .restart parseNothing serveRestart) s

end Sys2Proof.Machine
end

