-- ==== Sys2Proof/Machine/Protection.lean ====
section
/-! DEFINITION. The trip comparators (R53 to R55) and the events that the faults and the timers of a channel bring
(R16, R20, R56 to R63). -/

namespace Sys2Proof.Machine

/-- The channel current at an armed comparator (R55): above the threshold the filter runs, at or below it does not. -/
def Comparator.senseCurrent (k : Comparator) (current : Nat) : Comparator :=
  if k.armed then { k with filterRunning := decide (k.threshold < current) } else k

/-- SENSE_CURRENT_CHANGE (R55). -/
def execSenseCurrentChange (c : Chan) (current : Nat) (s : State) : Host.Outcome State Fault Refusal :=
  live (fun s => s.afterBoundary.onChan c fun k => { k with comparator := k.comparator.senseCurrent current }) s

/-- The comparator operates: one trip event with the current arming number is sent, and it disarms itself (R55). -/
def Channel.operate (k : Channel) : Channel :=
  { k with comparator := k.comparator.disarm, trips := k.trips ++ [k.comparator.armingNumber] }

/-- The comparator is armed with its filter running, so it can operate (R55). -/
def Comparator.canOperate (k : Comparator) : Bool := k.armed && k.filterRunning

/-- COMPARATOR_OPERATE (R55): the filter time has elapsed with the current above the threshold. -/
def execComparatorOperate (c : Chan) (s : State) : Host.Outcome State Fault Refusal :=
  live (fun s => if (s.chan c).comparator.canOperate then s.afterBoundary.onChan c Channel.operate else s) s

/-- The trip event of an arming is taken out of transit. -/
def State.removeTrip (s : State) (c : Chan) (arming : Nat) : State :=
  s.onChan c fun k => { k with trips := k.trips.erase arming }

/-- A trip event that reaches its channel (R56): in ON, with the number of the present arming, the trip is handled; else it
has no effect. -/
def State.takeTrip (s : State) (c : Chan) (arming : Nat) : State :=
  if arming ∈ (s.chan c).trips then
    let t := s.removeTrip c arming
    if (s.chan c).state = .on ∧ (s.chan c).comparator.armingNumber = arming then (t.tripped c).settle else t
  else s

/-- TRIP_EVENT (R56). The event is taken after the boundary in which the filter ran. -/
def execTripEvent (c : Chan) (arming : Nat) (s : State) : Host.Outcome State Fault Refusal :=
  live (fun s => s.takeTrip c arming) s

/-- The running timer of a channel is a START timer that has expired (R16). -/
def ChTimer.startDue (t : ChTimer) (now : Nat) : Bool :=
  match t with
  | .start e => decide (e ≤ now)
  | _ => false

def ChTimer.retryWindowDue (t : ChTimer) (now : Nat) : Bool :=
  match t with
  | .retryWindow e => decide (e ≤ now)
  | _ => false

def ChTimer.cooldownDue (t : ChTimer) (now : Nat) : Bool :=
  match t with
  | .cooldown e => decide (e ≤ now)
  | _ => false

/-- START_TIMER_EXPIRY (R16, R59): a start failure. -/
def execStartTimerExpiry (c : Chan) (s : State) : Host.Outcome State Fault Refusal :=
  live (fun s =>
    if (s.chan c).state = .starting ∧ (s.chan c).timer.startDue s.uptime = true then (s.startFailed c).settle else s) s

/-- RETRY_WINDOW_EXPIRY (R61): the retry count returns to 0 and the channel stays ON. -/
def execRetryWindowExpiry (c : Chan) (s : State) : Host.Outcome State Fault Refusal :=
  live (fun s =>
    if (s.chan c).state = .on ∧ (s.chan c).timer.retryWindowDue s.uptime = true then
      s.onChan c fun k => { k with retryCount := 0, timer := .none }
    else s) s

/-- Cycle return waiting is set and a claim is placed with the arbiter, ordered by the expiry of the cycle timer (R20,
R38). -/
def State.placeClaim (s : State) (c : Chan) (expiry : Nat) : State :=
  (s.onChan c fun k =>
    { k with cycleReturnWaiting := true, timer := .none, claimNumber := s.budget.nextClaim }).onBudget fun b =>
    b.placeClaim c expiry

/-- The cycle timer of a channel in CYCLE_OFF expires (R20). -/
def State.cycleExpired (s : State) (c : Chan) : State :=
  match (s.chan c).state, (s.chan c).timer with
  | .cycleOff, .cycle e => if e ≤ s.uptime then (s.placeClaim c e).settle else s
  | _, _ => s

/-- CYCLE_TIMER_EXPIRY (R20). -/
def execCycleTimerExpiry (c : Chan) (s : State) : Host.Outcome State Fault Refusal := live (fun s => s.cycleExpired c) s

/-- The cooldown ends (R63): a RETRY join, or OFF with reason BUDGET, each with its CHANNEL_STATE notice. -/
def State.cooldownEnded (s : State) (c : Chan) : State :=
  let t := s.onChan c fun k => { k with timer := .none }
  if (s.chan c).cfg.allowance ≤ s.budget.settings.limit then (t.joinQueue c .retry).postChange c .cooldown .retry
  else (t.onChan c fun k => { k with state := .off, lastOff := .budget }).postChange c .cooldown .budget

/-- COOLDOWN_EXPIRY (R63). -/
def execCooldownExpiry (c : Chan) (s : State) : Host.Outcome State Fault Refusal :=
  live (fun s =>
    if (s.chan c).state = .cooldown ∧ (s.chan c).timer.cooldownDue s.uptime = true then (s.cooldownEnded c).settle
    else s) s

end Sys2Proof.Machine
end

