-- ==== Sys2Proof/Machine/Schedule.lean ====
section
/-! DEFINITION. The Schedule Unit (chapter 7): the schedule list, the firing of an entry, re-arming, and the due pass. -/

namespace Sys2Proof.Machine

/-- An entry is placed after every entry whose due is at most its own and before every entry whose due is greater (R111). -/
def placeEntry (e : SchedEntry) (list : List SchedEntry) : List SchedEntry :=
  list.takeWhile (fun x => x.due ≤ e.due) ++ e :: list.dropWhile (fun x => x.due ≤ e.due)

/-- How many periods are added at a re-arm at uptime `t`: the least number, at least 1, that takes the due past `t`
(R115). -/
def rearmCount (e : SchedEntry) (t : Nat) : Nat := (t - e.due) / (1000 * e.period) + 1

/-- A periodic entry re-armed at uptime `t` (R114 step 3, R115). -/
def SchedEntry.rearm (e : SchedEntry) (t : Nat) : SchedEntry :=
  { e with
    due := e.due + rearmCount e t * (1000 * e.period)
    insertion := t
    missed := min 255 (rearmCount e t - 1) }

/-- The list after its head has fired at uptime `t`: a one-shot entry leaves it, a periodic entry is re-armed (R114). -/
def afterFiring (e : SchedEntry) (rest : List SchedEntry) (t : Nat) : List SchedEntry :=
  if e.period = 0 then rest else placeEntry (e.rearm t) rest

/-- The new due that a firing reports: none for a one-shot entry (R114). -/
def nextDue (e : SchedEntry) (t : Nat) : Option Nat := if e.period = 0 then none else some (e.rearm t).due

/-- The action of an entry is made to its channel as a request of origin SCHEDULE (R113). -/
def State.scheduleRequest (s : State) (e : SchedEntry) : State × Status :=
  match e.action with
  | .on => s.requestOn e.chan .schedule
  | .off => s.requestOff e.chan .schedule
  | .cycle => s.requestCycleSchedule e.chan

/-- The head of the list fires (R113, R114): the request, the scan that it brings, the list, the notice. -/
def State.fire (s : State) (e : SchedEntry) (rest : List SchedEntry) : State :=
  let r := s.scheduleRequest e
  let t := { r.1.runScan with schedule := afterFiring e rest s.uptime }
  t.post (some e.chan)
    (.scheduleFired e.tag e.action e.due r.2 (t.chan e.chan).state (nextDue e s.uptime) e.missed)

/-- While the head is due it fires, one entry at a time (R112). -/
def State.firePass : Nat → State → State
  | 0, s => s
  | n + 1, s =>
    match s.schedule with
    | [] => s
    | e :: rest => if e.due ≤ s.uptime then State.firePass n (s.fire e rest) else s

/-- A due pass (R112): every entry it finds due fires once, so it makes no more firings than the list has entries. -/
def State.duePass (s : State) : State := State.firePass s.schedule.length s

/-- DUE_PASS (R112). -/
def execDuePass (s : State) : Host.Outcome State Fault Refusal := live (fun s => s.duePass.settle) s

end Sys2Proof.Machine
end

