-- ==== Sys2Proof/Machine/ScheduleRequests.lean ====
section
/-! DEFINITION. The requests of the Schedule Unit: SCHED_ADD (R116, R117), SCHED_CANCEL (R118) and SCHED_LIST (R119). -/

namespace Sys2Proof.Machine

/-- The due of a new entry taken at uptime `u` (the table of R117). A due is an uptime of 48 bits (R110), and the spec gives
none where a delay ends past the greatest uptime: a free value (log 36). -/
def formDue (form : TimingForm) (time u : Nat) : Nat :=
  match form with
  | .delay =>
    if time = 0 then u
    else if u + time + 1 < 2 ^ 48 then u + time + 1
    else (Config.dueAfterLast (u + time + 1)).toNat
  | .absolute => time

/-- The new entry of an accepted SCHED_ADD (R117). -/
def newEntry (f : SchedAddFields) (u : Nat) : SchedEntry where
  tag := f.tag
  chan := f.chan
  action := f.action
  due := formDue f.form f.time u
  period := f.period
  insertion := u
  missed := 0

/-- The refusals of SCHED_ADD in their order (R116); `none` is acceptance. -/
def addRefusal (list : List SchedEntry) (tag : Nat) : Option Status :=
  if list.any (fun e => e.tag == tag) then some .duplicateTag
  else if 32 ≤ list.length then some .listFull
  else none

/-- The fields of the reply to SCHED_ADD (R116, R117). -/
def addFields (tag entryDue : Nat) (fired : Bool) (s : State) : List Byte :=
  be 2 tag ++ be 6 entryDue ++ be 1 (flagBits [fired]) ++ be 1 s.schedule.length

/-- SCHED_ADD (R116, R117): the due pass at the end of the request's event fires the new entry when its due is at or before
the uptime. DESIGN CHOICE (log 39): where an entry still waits for its due pass and the new due is before its own, the pass fires in
list order (R111, R112), the new entry first, although R117 has the waiting one fire ahead of it. -/
def serveSchedAdd (_id : Nat) (f : SchedAddFields) (s : State) : State × Answer :=
  match addRefusal s.schedule f.tag with
  | some status => (s, answer status (addFields f.tag 0 false s))
  | none =>
    let e := newEntry f s.uptime
    let t := { s with schedule := placeEntry e s.schedule }.duePass
    (t, answer .ok (addFields f.tag e.due (decide (e.due ≤ s.uptime)) t))

/-- SCHED_ADD. -/
def execSchedAdd (s : State) : Host.Outcome State Fault Refusal :=
  live (State.dispatch .schedAdd parseSchedAdd serveSchedAdd) s

/-- SCHED_CANCEL (R118). -/
def serveSchedCancel (_id tag : Nat) (s : State) : State × Answer :=
  match s.schedule.find? (fun e => e.tag == tag) with
  | none => (s, answer .noSuchTag (be 2 tag ++ be 1 0 ++ be 1 0 ++ be 6 0 ++ be 4 0))
  | some e =>
    ({ s with schedule := s.schedule.eraseP fun e => e.tag == tag },
      answer .ok (be 2 tag ++ be 1 e.chan.toNat ++ be 1 (SchedAction.code e.action) ++ be 6 e.due ++ be 4 e.period))

/-- SCHED_CANCEL. -/
def execSchedCancel (s : State) : Host.Outcome State Fault Refusal :=
  live (State.dispatch .schedCancel parseNumber serveSchedCancel) s

/-- SCHED_LIST (R119): up to 8 entries from the first position. -/
def serveSchedList (_id first : Nat) (s : State) : State × Answer :=
  (s, answer .ok (be 6 s.uptime ++ be 1 s.schedule.length ++ ((s.schedule.drop first).take 8).flatMap schedEntry))

/-- SCHED_LIST. -/
def execSchedList (s : State) : Host.Outcome State Fault Refusal :=
  live (State.dispatch .schedList parseSchedList serveSchedList) s

end Sys2Proof.Machine
end

