-- ==== Sys2Proof/Machine/NoticeEvents.lean ====
section
/-! DEFINITION. The events of the Notice Unit: the valid-frame signal (R159, R169), the notice-sent signal (R166), the
acknowledgement timer (R168) and the keepalive timer (R160). -/

namespace Sys2Proof.Machine

/-- The interval of the acknowledgement timer, in ms (R166). -/
def ackInterval : Nat := 200

/-- One valid-frame signal has been taken: every entry in hand waits for one signal less (log 9). -/
def Link.signalTaken (l : Link) : Link :=
  { l with
    validSignals := l.validSignals - 1
    queue := l.queue.map fun e => { e with signalWait := e.signalWait - 1 } }

/-- The Notice Unit takes a valid-frame signal (R159, R169). -/
def State.takeValidFrame (s : State) : State :=
  if 0 < s.link.validSignals then
    let t := s.afterBoundary
    ((t.onLink Link.signalTaken).onNotices fun u => u.takeValidFrame t.uptime (t.deadline u.keepalive)).settle
  else s

/-- VALID_FRAME_SIGNAL. -/
def execValidFrameSignal (s : State) : Host.Outcome State Fault Refusal := live State.takeValidFrame s

/-- The Notice Unit takes a notice-sent signal (R166). -/
def State.takeNoticeSent (s : State) (nseq : Nat) : State :=
  if nseq ∈ s.notices.sentSignals then
    let t := s.afterBoundary
    t.onNotices fun u => { u with sentSignals := u.sentSignals.erase nseq }.takeSent nseq (t.deadline ackInterval)
  else s

/-- NOTICE_SENT (R166). -/
def execNoticeSent (nseq : Nat) (s : State) : Host.Outcome State Fault Refusal := live (fun s => s.takeNoticeSent nseq) s

/-- ACK_TIMER_EXPIRY (R168). -/
def execAckTimerExpiry (s : State) : Host.Outcome State Fault Refusal :=
  live (fun s => if due s.notices.ackTimer s.uptime then (s.onNotices Notices.ackExpiry).settle else s) s

/-- The channels that host loss switches off, ascending (R160 step 2). -/
def hostLossChannels (s : State) : List Chan :=
  Chan.all.filter fun c =>
    (s.chan c).cfg.hostLoss == .switchOff &&
      match (s.chan c).state with
      | .queued | .starting | .on | .cycleOff | .cooldown => true
      | .disabled | .off | .latched => false

/-- OFF requests of origin SESSION to some channels, one after another (R160 step 2). -/
def State.hostLossOff (s : State) : List Chan → State
  | [] => s
  | c :: rest => (s.requestOff c .session).1.hostLossOff rest

/-- The keepalive timer expires in OPEN: host loss (R160). -/
def State.hostLost (s : State) : State :=
  let cs := hostLossChannels s
  let t := s.endSession.hostLossOff cs
  t.post none
    (.hostLost s.notices.keepalive s.notices.openedStamp s.notices.latestFrame (cs.map fun c => (c, (s.chan c).state)))

/-- KEEPALIVE_EXPIRY (R160). -/
def execKeepaliveExpiry (s : State) : Host.Outcome State Fault Refusal :=
  live (fun s =>
    if s.notices.sessionOpen && due s.notices.keepaliveTimer s.uptime then s.hostLost.settle else s) s

end Sys2Proof.Machine
end

