-- ==== Sys2Proof/Machine/SessionRequests.lean ====
section
/-! DEFINITION. The requests of the Notice Unit: SESSION_OPEN (R158), SESSION_CLOSE and PING (R161), NOTICE_ACK (R167) and
SUBSCRIBE (R163). -/

namespace Sys2Proof.Machine

/-- An accepted SESSION_OPEN at the Notice Unit, with delivery begun (R158, R166). -/
def Notices.openSession (u : Notices) (keepalive now keepaliveExpiry : Nat) : Notices :=
  { u with
    sessionOpen := true
    keepalive := keepalive
    keepaliveTimer := if keepalive = 0 then none else some keepaliveExpiry
    openedStamp := now
    resend := 0
    stalled := false }.fillWindow

/-- SESSION_OPEN (R158). -/
def serveSessionOpen (_id keepalive : Nat) (s : State) : State × Answer :=
  if s.notices.sessionOpen then (s, answer .sessionActive (be 2 0 ++ be 1 0 ++ be 1 0 ++ be 6 0))
  else
    let t := s.onNotices fun u => u.openSession keepalive s.uptime (s.deadline keepalive)
    (t, answer .ok (be 2 t.notices.oldestNseq ++ be 1 t.notices.queue.length ++ be 1 t.notices.lost ++ be 6 t.uptime))

/-- SESSION_OPEN. -/
def execSessionOpen (s : State) : Host.Outcome State Fault Refusal :=
  live (State.dispatch .sessionOpen parseSessionOpen serveSessionOpen) s

/-- SESSION_CLOSE (R161): a session end without host-loss action. -/
def serveSessionClose (_id : Nat) (_ : Unit) (s : State) : State × Answer :=
  (s.endSession, answer .ok (be 1 s.notices.queue.length))

/-- SESSION_CLOSE. -/
def execSessionClose (s : State) : Host.Outcome State Fault Refusal :=
  live (State.dispatch .sessionClose parseNothing serveSessionClose) s

/-- How many notices are IN_FLIGHT (R161). -/
def inFlightCount (queue : List Notice) : Nat := (queue.filter fun n => n.delivery == Delivery.inFlight).length

/-- The fields of the reply to PING, with the keepalive it reports (R161). -/
def pingFields (s : State) (keepalive : Nat) : List Byte :=
  be 1 (flagBits [s.notices.sessionOpen, s.notices.stalled]) ++ be 2 keepalive
    ++ be 2 (remaining s.notices.keepaliveTimer s.uptime) ++ be 1 s.notices.queue.length
    ++ be 1 (inFlightCount s.notices.queue) ++ be 6 s.uptime

/-- PING (R161). In CLOSED the keepalive it reports is meaningless (R157): a free value (log 10). -/
def servePing (_id : Nat) (_ : Unit) (s : State) : State × Answer :=
  if s.notices.sessionOpen then (s, answer .ok (pingFields s s.notices.keepalive))
  else ({ s with draws := s.draws + 1 }, answer .ok (pingFields s (Config.closedKeepalive s.draws).toNat))

/-- PING. -/
def execPing (s : State) : Host.Outcome State Fault Refusal := live (State.dispatch .ping parseNothing servePing) s

/-- NOTICE_ACK (R167). -/
def serveNoticeAck (_id nseq : Nat) (s : State) : State × Answer :=
  match acknowledged nseq s.notices.queue with
  | none => (s, answer .notInFlight (be 1 0 ++ be 2 s.notices.oldestNseq ++ be 1 s.notices.queue.length))
  | some (removed, rest) =>
    let t := s.onNotices fun u => u.acknowledge rest (s.deadline ackInterval)
    (t, answer .ok (be 1 removed ++ be 2 t.notices.oldestNseq ++ be 1 t.notices.queue.length))

/-- NOTICE_ACK. -/
def execNoticeAck (s : State) : Host.Outcome State Fault Refusal :=
  live (State.dispatch .noticeAck parseNumber serveNoticeAck) s

/-- SUBSCRIBE (R163). -/
def serveSubscribe (_id : Nat) (set : BitVec 13) (s : State) : State × Answer :=
  if s.profile.busy then (s, answer .profileBusy (be 2 0))
  else ((s.onNotices fun u => { u with subscriptions := set }).markUnsaved, answer .ok (be 2 set.toNat))

/-- SUBSCRIBE. -/
def execSubscribe (s : State) : Host.Outcome State Fault Refusal :=
  live (State.dispatch .subscribe parseSubscribe serveSubscribe) s

end Sys2Proof.Machine
end

