-- ==== Sys2Proof/Machine/Supply.lean ====
section
/-! DEFINITION. The supply and the RESET line: POWER_ON, POWER_LOSS, RESET_LINE_CHANGE, RESET_FILTER_EXPIRY and
RESTART_REPLY_SIGNAL. -/

namespace Sys2Proof.Machine

/-- POWER_ON (R132). Applied to a part that is supplied it is a loss of the supply and its return (log 3). -/
def execPowerOn (s : State) : Host.Outcome State Fault Refusal := .next s.powerLost.powerOn

/-- POWER_LOSS (R129). -/
def execPowerLoss (s : State) : Host.Outcome State Fault Refusal := .next s.powerLost

/-- The RESET line takes a level (R133). -/
def State.setResetLine (s : State) (level : Level) : State :=
  let t := { s with pins := { s.pins with reset := level } }
  if s.powered then
    t.onProfile fun p => { p with resetFilter := filterAfter p.resetLevel level p.resetFilter (s.deadline resetFilterTime) }
  else t

/-- RESET_LINE_CHANGE (R133). -/
def execResetLineChange (level : Level) (s : State) : Host.Outcome State Fault Refusal := .next (s.setResetLine level)

/-- The RESET filter timer expires (R133): the filtered level takes the line's level, and a change to ASSERTED is a
controller restart of cause RESET_LINE. -/
def State.resetFilterExpired (s : State) : State :=
  if due s.profile.resetFilter s.uptime then
    let t := s.onProfile fun p => { p with resetLevel := s.pins.reset, resetFilter := none }
    if s.profile.resetLevel = .released ∧ s.pins.reset = .asserted then t.controllerRestart .resetLine else t
  else s

/-- RESET_FILTER_EXPIRY (R133). -/
def execResetFilterExpiry (s : State) : Host.Outcome State Fault Refusal := live State.resetFilterExpired s

/-- The signal for the reply to an accepted RESTART (R134): the first one is a controller restart of cause
RESTART_REQUEST. -/
def State.takeRestartSignal (s : State) (fate : ReplyFate) (request : Nat) : State :=
  if ({ target := .restart, request := request, fate := fate } : ReplySignal) ∈ s.link.signals then
    let t := s.afterBoundary.onLink fun l =>
      { l with signals := l.signals.erase { target := .restart, request := request, fate := fate } }
    if s.profile.restartPending = some request then t.controllerRestart .restartRequest else t
  else s

/-- RESTART_REPLY_SIGNAL (R134). -/
def execRestartReplySignal (fate : ReplyFate) (request : Nat) (s : State) : Host.Outcome State Fault Refusal :=
  live (fun s => s.takeRestartSignal fate request) s

end Sys2Proof.Machine
end

