-- ==== Sys2Proof/Machine/WatchRequests.lean ====
section
/-! DEFINITION. The requests of the Watch Unit: WATCH_SET (R92), WATCH_DELETE (R93), WATCH_CLEAR (R94) and WATCH_QUERY
(R95). -/

namespace Sys2Proof.Machine

/-- The watch record of a number; a number outside the table reads as a free record. -/
def State.watchAt (s : State) (n : Nat) : Option Watch := s.watches.getD n none

/-- A record as WATCH_SET writes it (R92). The spec makes its last average not valid and gives it no value, over-range and
stamp: they are a free value (log 20). -/
def Watch.written (cfg : WatchConfig) (stale : BitVec 32 × Bool × BitVec 48) : Watch :=
  { Watch.loaded cfg with
    last := { valid := false, value := stale.1.toNat, overFlag := stale.2.1, stamp := stale.2.2.toNat } }

/-- WATCH_SET (R92): the record is written, in use or free, with its running state at the start of its first block. -/
def serveWatchSet (_id : Nat) (x : Nat × WatchConfig) (s : State) : State × Answer :=
  if s.profile.busy then (s, answer .profileBusy (be 1 0))
  else
    let t := { s with draws := s.draws + 1 }
    ((t.setWatch x.1 (some (Watch.written x.2 (Config.invalidAverage s.draws)))).markUnsaved, answer .ok (be 1 x.1))

/-- WATCH_SET. -/
def execWatchSet (s : State) : Host.Outcome State Fault Refusal :=
  live (State.dispatch .watchSet parseWatchSet serveWatchSet) s

/-- WATCH_DELETE (R93). -/
def serveWatchDelete (_id n : Nat) (s : State) : State × Answer :=
  if s.profile.busy then (s, answer .profileBusy (be 1 0))
  else
    match s.watchAt n with
    | none => (s, answer .already (be 1 n))
    | some _ => ((s.setWatch n none).markUnsaved, answer .ok (be 1 n))

/-- WATCH_DELETE. -/
def execWatchDelete (s : State) : Host.Outcome State Fault Refusal :=
  live (State.dispatch .watchDelete parseRecord serveWatchDelete) s

/-- A record in use after WATCH_CLEAR (the table of R94). -/
def Watch.clear (w : Watch) : Watch := { w with raised := raisedAfterClear w.cfg.mode w.level }

/-- WATCH_CLEAR (R94). -/
def serveWatchClear (_id n : Nat) (s : State) : State × Answer :=
  match s.watchAt n with
  | none => (s, answer .noSuchWatch (be 1 0 ++ be 1 0))
  | some w => (s.setWatch n (some w.clear), answer .ok (be 1 n ++ be 1 (flagBits [w.level == .high, w.clear.raised])))

/-- WATCH_CLEAR. -/
def execWatchClear (s : State) : Host.Outcome State Fault Refusal :=
  live (State.dispatch .watchClear parseRecord serveWatchClear) s

/-- WATCH_QUERY (R95). -/
def serveWatchQuery (_id : Nat) (ns : List Nat) (s : State) : State × Answer :=
  (s, answer .ok (ns.flatMap fun n => watchEntry n (s.watchAt n)))

/-- WATCH_QUERY. -/
def execWatchQuery (s : State) : Host.Outcome State Fault Refusal :=
  live (State.dispatch .watchQuery parseWatchQuery serveWatchQuery) s

end Sys2Proof.Machine
end

