-- ==== Sys2Proof/Machine/Clock.lean ====
section
/-! DEFINITION. The passing of time (R1, R69), for which the table has no row: what the part does while no command waits. The
events that are due, and those in transit, become commands in one fixed order (log 2). -/

namespace Sys2Proof.Machine

/-- A command when a condition holds. -/
def commandIf (condition : Bool) (c : Instr) : List Instr := if condition then [c] else []

/-- The expiry event of a channel's timer, when it is due (R16, R20, R61, R63). -/
def channelExpiry (s : State) (c : Chan) : List Instr :=
  match (s.chan c).state, (s.chan c).timer with
  | .starting, .start e => commandIf (decide (e ≤ s.uptime)) (.startTimerExpiry c)
  | .on, .retryWindow e => commandIf (decide (e ≤ s.uptime)) (.retryWindowExpiry c)
  | .cycleOff, .cycle e => commandIf (decide (e ≤ s.uptime)) (.cycleTimerExpiry c)
  | .cooldown, .cooldown e => commandIf (decide (e ≤ s.uptime)) (.cooldownExpiry c)
  | _, _ => []

/-- The head of the schedule list is due (R112). -/
def scheduleDue (s : State) : Bool :=
  match s.schedule with
  | [] => false
  | e :: _ => decide (e.due ≤ s.uptime)

/-- The expiries that are due at this uptime. -/
def expiries (s : State) : List Instr :=
  commandIf (due s.profile.resetFilter s.uptime) .resetFilterExpiry
    ++ commandIf (due s.budget.shedFilter s.uptime) .shedFilterExpiry
    ++ Chan.all.flatMap (channelExpiry s)
    ++ commandIf (due s.budget.holdTimer s.uptime) .overloadHoldExpiry
    ++ commandIf (scheduleDue s) .duePass
    ++ commandIf (due s.link.gapTimer s.uptime && s.link.inFrame) .gapTimerExpiry
    ++ commandIf (due s.link.breakTimer s.uptime) .breakTimerExpiry
    ++ commandIf (s.notices.sessionOpen && due s.notices.keepaliveTimer s.uptime) .keepaliveExpiry
    ++ commandIf (due s.notices.ackTimer s.uptime) .ackTimerExpiry

/-- The grant as the command that takes it (R36). -/
def grantCommand : Grant → Instr
  | .queue c join => .queueGrant c join
  | .cycleReturn c claim => .cycleReturnGrant c claim

/-- The signal as the command that takes it (R151). -/
def signalCommand (x : ReplySignal) : List Instr :=
  match x.target, x.fate with
  | .cycle c, .sent => [.replySentCycle c x.request]
  | .cycle c, .discarded => [.replyDiscardedCycle c x.request]
  | .restart, fate => [.restartReplySignal fate x.request]
  | .nothing, _ => []

/-- The request kind as the command that dispatches it (R147). -/
def requestCommand : ReqKind → Instr
  | .identify => .identify
  | .linkStatus => .linkStatus
  | .linkConfig => .linkConfig
  | .sessionOpen => .sessionOpen
  | .sessionClose => .sessionClose
  | .ping => .ping
  | .noticeAck => .noticeAck
  | .subscribe => .subscribe
  | .channelConfig => .channelConfig
  | .channelQuery => .channelQuery
  | .channelOn => .channelOn
  | .channelOff => .channelOff
  | .channelCycle => .channelCycle
  | .channelClear => .channelClear
  | .budgetConfig => .budgetConfig
  | .budgetQuery => .budgetQuery
  | .measureRead => .measureRead
  | .energyRead => .energyRead
  | .peakRead => .peakRead
  | .watchSet => .watchSet
  | .watchDelete => .watchDelete
  | .watchClear => .watchClear
  | .watchQuery => .watchQuery
  | .schedAdd => .schedAdd
  | .schedCancel => .schedCancel
  | .schedList => .schedList
  | .profileSave => .profileSave
  | .profileQuery => .profileQuery
  | .restart => .restart

/-- The dispatch of the oldest WAITING entry, once its valid-frame signal has been taken (R147, R159). -/
def dispatchCommand (l : Link) : List Instr :=
  match l.oldestWaiting with
  | none => []
  | some e =>
    match ReqKind.ofCode? e.kind with
    | none => [.unknownKind]
    | some k => commandIf (e.signalWait == 0) (requestCommand k)

/-- The round deliveries that wait (R73). -/
def deliveryCommands (d : Deliveries) : List Instr :=
  (Chan.all.flatMap fun c => commandIf (!(d.toChannels.get c).isEmpty) (.roundDeliveryChannel c))
    ++ commandIf (!d.toBudget.isEmpty) .roundDeliveryBudget
    ++ commandIf (!d.toWatch.isEmpty) .roundDeliveryWatch
    ++ commandIf (!d.toMeter.isEmpty) .roundDeliveryMeter

/-- The write of a save that has no generation to write ends at once (R127). -/
def emptyWrite (p : Profile) : Bool := p.saveState == .writing && p.newGeneration.isNone

/-- The events in transit from one block to another, and the dispatch. -/
def transits (s : State) : List Instr :=
  s.budget.grants.map grantCommand
    ++ (Chan.all.flatMap fun c => (s.chan c).trips.map (Instr.tripEvent c))
    ++ List.replicate s.link.validSignals .validFrameSignal
    ++ s.notices.sentSignals.map Instr.noticeSent
    ++ s.link.signals.flatMap signalCommand
    ++ dispatchCommand s.link
    ++ deliveryCommands s.deliveries
    ++ commandIf (emptyWrite s.profile) (.saveWriteEnd .complete)

/-- The next millisecond boundary: uptime counts, and the next round begins (R1, R69). -/
def State.boundary (s : State) : State :=
  { s with
    uptime := nextUptime s.uptime
    within := false
    sampler := { s.sampler with round := some (nextUptime s.uptime) } }

/-- The passing of time (log 2): the events that are due or in transit, then the time after the boundary, then the end of the
round in progress, then the next boundary. Without its supply the part does nothing. -/
def State.passTime (s : State) : State :=
  if s.powered then
    match expiries s ++ transits s with
    | c :: rest => { s with pending := c :: rest }
    | [] =>
      if s.within then
        match s.sampler.round with
        | some stamp => { s with pending := [.roundComplete (Config.roundReadings stamp)] }
        | none => s.boundary
      else s.afterBoundary
  else s

end Sys2Proof.Machine
end

