-- ==== Sys2Proof/Machine/Dispatch.lean ====
section
/-! DEFINITION. The meaning of every command: one arm for each row of the table. -/

namespace Sys2Proof.Machine

def exec (i : Instr) (s : State) : Host.Outcome State Fault Refusal :=
  match i with
  | .powerOn => Sys2Proof.Machine.execPowerOn s
  | .powerLoss => Sys2Proof.Machine.execPowerLoss s
  | .resetLineChange level => Sys2Proof.Machine.execResetLineChange level s
  | .resetFilterExpiry => Sys2Proof.Machine.execResetFilterExpiry s
  | .shedLineChange level => Sys2Proof.Machine.execShedLineChange level s
  | .shedFilterExpiry => Sys2Proof.Machine.execShedFilterExpiry s
  | .roundComplete readings => Sys2Proof.Machine.execRoundComplete readings s
  | .roundDeliveryChannel c => Sys2Proof.Machine.execRoundDeliveryChannel c s
  | .roundDeliveryBudget => Sys2Proof.Machine.execRoundDeliveryBudget s
  | .overloadHoldExpiry => Sys2Proof.Machine.execOverloadHoldExpiry s
  | .roundDeliveryWatch => Sys2Proof.Machine.execRoundDeliveryWatch s
  | .roundDeliveryMeter => Sys2Proof.Machine.execRoundDeliveryMeter s
  | .senseCurrentChange c current => Sys2Proof.Machine.execSenseCurrentChange c current s
  | .comparatorOperate c => Sys2Proof.Machine.execComparatorOperate c s
  | .tripEvent c arming => Sys2Proof.Machine.execTripEvent c arming s
  | .startTimerExpiry c => Sys2Proof.Machine.execStartTimerExpiry c s
  | .retryWindowExpiry c => Sys2Proof.Machine.execRetryWindowExpiry c s
  | .cycleTimerExpiry c => Sys2Proof.Machine.execCycleTimerExpiry c s
  | .cooldownExpiry c => Sys2Proof.Machine.execCooldownExpiry c s
  | .queueGrant c join => Sys2Proof.Machine.execQueueGrant c join s
  | .cycleReturnGrant c claim => Sys2Proof.Machine.execCycleReturnGrant c claim s
  | .replySentCycle c request => Sys2Proof.Machine.execReplySentCycle c request s
  | .replyDiscardedCycle c request => Sys2Proof.Machine.execReplyDiscardedCycle c request s
  | .restartReplySignal fate request => Sys2Proof.Machine.execRestartReplySignal fate request s
  | .duePass => Sys2Proof.Machine.execDuePass s
  | .saveWriteEnd result => Sys2Proof.Machine.execSaveWriteEnd result s
  | .saveVerifyEnd => Sys2Proof.Machine.execSaveVerifyEnd s
  | .receiveCharacterError => Sys2Proof.Machine.execReceiveCharacterError s
  | .frameAbandonBadLen len => Sys2Proof.Machine.execFrameAbandonBadLen len s
  | .gapTimerExpiry => Sys2Proof.Machine.execGapTimerExpiry s
  | .frameComplete last => Sys2Proof.Machine.execFrameComplete last s
  | .validFrameSignal => Sys2Proof.Machine.execValidFrameSignal s
  | .receiveLineChange level => Sys2Proof.Machine.execReceiveLineChange level s
  | .breakTimerExpiry => Sys2Proof.Machine.execBreakTimerExpiry s
  | .transmitFrameEnd => Sys2Proof.Machine.execTransmitFrameEnd s
  | .noticeSent nseq => Sys2Proof.Machine.execNoticeSent nseq s
  | .ackTimerExpiry => Sys2Proof.Machine.execAckTimerExpiry s
  | .keepaliveExpiry => Sys2Proof.Machine.execKeepaliveExpiry s
  | .unknownKind => Sys2Proof.Machine.execUnknownKind s
  | .identify => Sys2Proof.Machine.execIdentify s
  | .linkStatus => Sys2Proof.Machine.execLinkStatus s
  | .linkConfig => Sys2Proof.Machine.execLinkConfig s
  | .sessionOpen => Sys2Proof.Machine.execSessionOpen s
  | .sessionClose => Sys2Proof.Machine.execSessionClose s
  | .ping => Sys2Proof.Machine.execPing s
  | .noticeAck => Sys2Proof.Machine.execNoticeAck s
  | .subscribe => Sys2Proof.Machine.execSubscribe s
  | .channelConfig => Sys2Proof.Machine.execChannelConfig s
  | .channelQuery => Sys2Proof.Machine.execChannelQuery s
  | .channelOn => Sys2Proof.Machine.execChannelOn s
  | .channelOff => Sys2Proof.Machine.execChannelOff s
  | .channelCycle => Sys2Proof.Machine.execChannelCycle s
  | .channelClear => Sys2Proof.Machine.execChannelClear s
  | .budgetConfig => Sys2Proof.Machine.execBudgetConfig s
  | .budgetQuery => Sys2Proof.Machine.execBudgetQuery s
  | .measureRead => Sys2Proof.Machine.execMeasureRead s
  | .energyRead => Sys2Proof.Machine.execEnergyRead s
  | .peakRead => Sys2Proof.Machine.execPeakRead s
  | .watchSet => Sys2Proof.Machine.execWatchSet s
  | .watchDelete => Sys2Proof.Machine.execWatchDelete s
  | .watchClear => Sys2Proof.Machine.execWatchClear s
  | .watchQuery => Sys2Proof.Machine.execWatchQuery s
  | .schedAdd => Sys2Proof.Machine.execSchedAdd s
  | .schedCancel => Sys2Proof.Machine.execSchedCancel s
  | .schedList => Sys2Proof.Machine.execSchedList s
  | .profileSave => Sys2Proof.Machine.execProfileSave s
  | .profileQuery => Sys2Proof.Machine.execProfileQuery s
  | .restart => Sys2Proof.Machine.execRestart s
  | .characterReceived char => Sys2Proof.Machine.execCharacterReceived char s

end Sys2Proof.Machine
end

