-- ==== Sys2Proof/Safety.lean ====
section
/-! DEFINITION. The words that the statements use: the parts of the state for a frame, when a request is dispatched and when
its fields are in range, joins, sheds in rank, what a start gives, and the properties that hold between any two commands. -/

namespace Sys2Proof.Machine

/-! Frames. -/

/-- The parts of the state. -/
inductive Part where
  | powered | uptime | within | draws | pins | chan (c : Chan) | budget | sampler | deliveries | watches | meter | schedule
  | profile | link | notices | pending
deriving DecidableEq, Repr

/-- A part of the state is the same in two states. -/
def Same (s t : State) : Part → Prop
  | .powered => t.powered = s.powered
  | .uptime => t.uptime = s.uptime
  | .within => t.within = s.within
  | .draws => t.draws = s.draws
  | .pins => t.pins = s.pins
  | .chan c => t.chan c = s.chan c
  | .budget => t.budget = s.budget
  | .sampler => t.sampler = s.sampler
  | .deliveries => t.deliveries = s.deliveries
  | .watches => t.watches = s.watches
  | .meter => t.meter = s.meter
  | .schedule => t.schedule = s.schedule
  | .profile => t.profile = s.profile
  | .link => t.link = s.link
  | .notices => t.notices = s.notices
  | .pending => t.pending = s.pending

/-- Every part outside a list is unchanged. -/
def OnlyChanges (parts : List Part) (s t : State) : Prop := ∀ p, p ∉ parts → Same s t p

/-- The parts that the end of every event may change: the admission queue with its grants, and the choice of the transmitter's
arbiter (R33, R150). -/
def eventEnd : List Part := [.budget, .link, .notices, .draws]

/-! Requests. -/

/-- A request kind is dispatched now: the part is supplied, the oldest WAITING entry is of the kind, its valid-frame signal has
been taken, its payload has the kind's length, and the session is OPEN where the kind needs one (R147, R148 checks 1 to 3). -/
def Dispatches (s : State) (k : ReqKind) (e : ReqEntry) : Prop :=
  s.powered = true ∧ s.link.oldestWaiting = some e ∧ e.kind = k.code ∧ e.signalWait = 0 ∧ e.payload.length = k.length
    ∧ (k.needsSession e.payload = true → s.notices.sessionOpen = true)

/-- The fields of a payload pass check 4 of the dispatch order (R148, R175). -/
def fieldsInRange : ReqKind → List Byte → Bool
  | .identify, p => (parseNothing p).isSome
  | .linkStatus, p => (parseLinkStatus p).isSome
  | .linkConfig, p => (parseLinkConfig p).isSome
  | .sessionOpen, p => (parseSessionOpen p).isSome
  | .sessionClose, p => (parseNothing p).isSome
  | .ping, p => (parseNothing p).isSome
  | .noticeAck, p => (parseNumber p).isSome
  | .subscribe, p => (parseSubscribe p).isSome
  | .channelConfig, p => (parseChannelConfig p).isSome
  | .channelQuery, p => (parseChannelQuery p).isSome
  | .channelOn, p => (parseChan p).isSome
  | .channelOff, p => (parseChan p).isSome
  | .channelCycle, p => (parseChan p).isSome
  | .channelClear, p => (parseChan p).isSome
  | .budgetConfig, p => (parseBudgetConfig p).isSome
  | .budgetQuery, p => (parseNothing p).isSome
  | .measureRead, p => (parseMask p).isSome
  | .energyRead, p => (parseEnergyRead p).isSome
  | .peakRead, p => (parsePeakRead p).isSome
  | .watchSet, p => (parseWatchSet p).isSome
  | .watchDelete, p => (parseRecord p).isSome
  | .watchClear, p => (parseRecord p).isSome
  | .watchQuery, p => (parseWatchQuery p).isSome
  | .schedAdd, p => (parseSchedAdd p).isSome
  | .schedCancel, p => (parseNumber p).isSome
  | .schedList, p => (parseSchedList p).isSome
  | .profileSave, p => (parseNothing p).isSome
  | .profileQuery, p => (parseNothing p).isSome
  | .restart, p => (parseNothing p).isSome

/-! Sheds. -/

/-- A held record stands before another in shed rank (R39): the higher class; in its class the later grant stamp; with the same
stamp the higher channel number. -/
def Budget.before (b : Budget) (c d : Chan) : Bool :=
  match b.records.get c, b.records.get d with
  | some r, some q =>
    decide (q.cls < r.cls ∨ (q.cls = r.cls ∧ q.grantStamp < r.grantStamp)
      ∨ (q.cls = r.cls ∧ q.grantStamp = r.grantStamp ∧ d.toNat < c.toNat))
  | _, _ => false

/-- A list holds exactly the channels of a set, in shed rank. -/
def Budget.InRank (b : Budget) (p : Chan → Prop) (order : List Chan) : Prop :=
  order.Nodup ∧ (∀ c, c ∈ order ↔ p c) ∧ order.Pairwise fun c d => b.before c d = true

/-- The amounts of a held record and of all that do not stand before it: what is committed when sheds in rank come to it. -/
def Budget.amountFrom (b : Budget) (c : Chan) : Nat :=
  (Chan.all.map fun d => if b.before d c then 0 else ((b.records.get d).map (·.amount)).getD 0).sum

/-- A channel that sheds of the excess come to while committed is still above the limit (R49 step 2, R136 step 3). -/
def Budget.Excess (b : Budget) (c : Chan) : Prop := (b.records.get c).isSome = true ∧ b.settings.limit < b.amountFrom c

/-- A channel whose held record is of class 1 to 3 (R43, R136 step 4). -/
def Budget.Sheddable (b : Budget) (c : Chan) : Prop := ∃ r, b.records.get c = some r ∧ 1 ≤ r.cls

/-- A channel is queued again when it is shed: after-shed REQUEUE, and an allowance within the limit (R41). -/
def State.requeues (s : State) (c : Chan) : Bool :=
  decide ((s.chan c).cfg.afterShed = .requeue) && decide ((s.chan c).cfg.allowance ≤ s.budget.settings.limit)

/-- A join at the tail of its class (R31), of an origin other than REQUEUE: the entry stands behind every entry of its class or a
lower one and before every other; the next join takes the next number, and a scan is due (R33). -/
def Budget.queuedAtTail (b : Budget) (now : Nat) (c : Chan) (cfg : ChannelConfig) (origin : Origin) : Budget :=
  { b with
    queue := b.queue.takeWhile (fun x => x.cls ≤ cfg.cls)
      ++ { chan := c, cls := cfg.cls, allowance := cfg.allowance, joinStamp := now, origin := origin, bypass := 0
           joinNumber := b.nextJoin }
        :: b.queue.dropWhile (fun x => x.cls ≤ cfg.cls)
    nextJoin := if b.nextJoin < 65535 then b.nextJoin + 1 else 0
    scanDue := true }

/-- A shed channel is queued again (R31, R41): its entry, of origin REQUEUE, stands at the head of its class, behind every entry
of a lower class and before every other; the next join takes the next number, and a scan is due (R33). -/
def Budget.requeued (b : Budget) (now : Nat) (c : Chan) (cfg : ChannelConfig) : Budget :=
  { b with
    queue := b.queue.takeWhile (fun x => x.cls < cfg.cls)
      ++ { chan := c, cls := cfg.cls, allowance := cfg.allowance, joinStamp := now, origin := .requeue, bypass := 0
           joinNumber := b.nextJoin }
        :: b.queue.dropWhile (fun x => x.cls < cfg.cls)
    nextJoin := if b.nextJoin < 65535 then b.nextJoin + 1 else 0
    scanDue := true }

/-- The channels of a list have been shed from `s` to `t`, one after another (R40, R41): each is off with the reason of the cause
and has given up all it held, and is queued again at the head of its class or left OFF; nothing else has changed. -/
def ShedsDone (cause : ShedCause) (s t : State) (order : List Chan) : Prop :=
  OnlyChanges (.budget :: order.map Part.chan) s t
  ∧ (∀ c ∈ order,
      let k := s.chan c
      t.chan c =
        { k with
          state := if s.requeues c then .queued else .off
          gate := .off
          comparator := { k.comparator with armed := false, filterRunning := false }
          timer := .none
          cyclePending := none
          cycleReturnWaiting := false
          lastOff := match cause with | .budget => .shedBudget | .line => .shedLine | .overload => .shedOverload
          joinNumber := (t.chan c).joinNumber }
      ∧ (s.requeues c = false → (t.chan c).joinNumber = k.joinNumber)
      ∧ ∀ x ∈ t.budget.queue, x.chan = c → x.joinNumber = (t.chan c).joinNumber)
  ∧ t.budget = order.foldl (fun b c =>
      if s.requeues c then (b.drop c).requeued s.uptime c (s.chan c).cfg else b.drop c) s.budget

/-- The SHED notices of such sheds, in their order (R40), each with what is committed after its shed. -/
def shedNotices (cause : ShedCause) (s t : State) : Nat → List Chan → List (Option Chan × NoticeBody)
  | _, [] => []
  | committed, c :: rest =>
    match s.budget.records.get c with
    | none => shedNotices cause s t committed rest
    | some r =>
      (some c, .shed cause (s.chan c).state (t.chan c).state r.cls r.amount (committed - r.amount))
        :: shedNotices cause s t (committed - r.amount) rest

/-! Starts. -/

/-- What both kinds of start give beside channels, Budget Manager, Profile Store and notices: the time base, the Sampler (R80,
R81), the Watch Unit (R96), the Meter (R108), the schedule (R120), and the Link Interface with the loaded rate (R156). -/
def StartsAfresh (w : WorkingConfig) (t : State) : Prop :=
  t.uptime = 0 ∧ t.within = false ∧ t.deliveries = Deliveries.empty ∧ t.schedule = [] ∧ t.meter = State.reset.meter
  ∧ t.watches = w.watches.map (fun x => x.map fun cfg =>
      { cfg := cfg, level := .low, raised := false, rises := 0, count := 0, sum := 0, overFlag := false
        last := ⟨false, 0, false, 0⟩ })
  ∧ t.sampler =
      { round := some 0, latest := Round.zero, latestValid := false
        blocks := PerChan.ofFn fun c => ⟨(w.channels.get c).reportWindow, 0, 0, 0, 0, false⟩
        results := PerChan.ofFn fun c => ⟨false, (w.channels.get c).reportWindow, 0, 0, 0, false, 0⟩ }
  ∧ t.link =
      { State.reset.link with
        rateInUse := w.linkRate, configuredRate := w.linkRate, nextId := t.link.nextId, stats := t.link.stats }

/-- The Notice Unit at a start, before the RESTARTED notice (R172). -/
def startNotices (w : WorkingConfig) : Notices :=
  { State.reset.notices with
    subscriptions := w.subscriptions, queue := [], nextNseq := 0, lost := 0, attn := .released }

/-- The entries that the joins of a start place into the empty queue: in class order and then channel-number order, with join
numbers from 0 (R31, R132, R135). -/
def startQueue (w : WorkingConfig) (origin : Origin) (joins : Chan → Bool) : List Waiting :=
  (([0, 1, 2, 3].flatMap fun k => Chan.all.filter fun c => joins c && (w.channels.get c).cls == k).zipIdx).map fun x =>
    { chan := x.1, cls := (w.channels.get x.1).cls, allowance := (w.channels.get x.1).allowance, joinStamp := 0
      origin := origin, bypass := 0, joinNumber := x.2 }

/-! Properties that hold between any two commands. -/

/-- A channel's gate, comparator and timer agree with its state (R3, R4, R14), and its retry count is within its limit
(R3). -/
def Channel.Sound (k : Channel) : Prop :=
  (k.gate = match k.state with
    | .starting => .regulating
    | .on => .full
    | .disabled | .off | .queued | .cycleOff | .cooldown | .latched => .off)
  ∧ (k.comparator.armed = true → k.state = .on)
  ∧ (k.comparator.filterRunning = true → k.comparator.armed = true)
  ∧ (k.cyclePending.isSome = true → k.state = .on)
  ∧ (match k.state with
    | .starting => ∃ e, k.timer = .start e
    | .on => k.timer = .none ∨ ∃ e, k.timer = .retryWindow e
    | .cycleOff => if k.cycleReturnWaiting then k.timer = .none else ∃ e, k.timer = .cycle e
    | .cooldown => ∃ e, k.timer = .cooldown e
    | .disabled | .off | .queued | .latched => k.timer = .none)
  ∧ (k.cycleReturnWaiting = true → k.state = .cycleOff)
  ∧ k.retryCount ≤ k.cfg.retryLimit ∧ k.tripTotal ≤ 65535

/-- Every channel is sound. -/
def ChannelsSound (s : State) : Prop := ∀ c, (s.chan c).Sound

/-- What the Budget Manager holds for a channel agrees with the channel's state (the table of R4; R28, R30, R36, R38). A
grant in transit shows in the record of a channel still QUEUED or in CYCLE_OFF. -/
def Agrees (k : Channel) (record : Option Reservation) (entries : List Waiting) (claims : List Claim) : Prop :=
  (∀ r, record = some r → r.amount = k.cfg.allowance ∧ r.cls = k.cfg.cls)
  ∧ (∀ e ∈ entries, e.allowance = k.cfg.allowance ∧ e.cls = k.cfg.cls ∧ e.joinNumber = k.joinNumber)
  ∧ match k.state, record with
    | .disabled, none | .off, none | .cooldown, none | .latched, none => entries = [] ∧ claims = []
    | .queued, none => entries.length = 1 ∧ claims = []
    | .queued, some r => r.phase = .starting ∧ r.slot = true ∧ r.grantTaken = false ∧ entries = [] ∧ claims = []
    | .starting, some r => r.phase = .starting ∧ r.slot = true ∧ r.grantTaken = true ∧ entries = [] ∧ claims = []
    | .on, some r => r.phase = .on ∧ r.slot = false ∧ entries = [] ∧ claims = []
    | .cycleOff, some r =>
      entries = []
        ∧ ((r.phase = .cycleOff ∧ r.slot = false ∧ claims.length = if k.cycleReturnWaiting then 1 else 0)
          ∨ (r.phase = .starting ∧ r.slot = true ∧ r.grantTaken = false ∧ k.cycleReturnWaiting = true ∧ claims = []))
    | .disabled, some _ | .off, some _ | .cooldown, some _ | .latched, some _ => False
    | .starting, none | .on, none | .cycleOff, none => False

/-- The Budget Manager and every Channel Controller agree. -/
def BudgetAgrees (s : State) : Prop :=
  ∀ c, Agrees (s.chan c) (s.budget.records.get c) (s.budget.queue.filter fun e => e.chan == c)
    (s.budget.claims.filter fun x => x.chan == c)

/-- Committed is at most the budget limit and the slots in use at most the start slots (R28, R35, R37). -/
def BudgetWithin (s : State) : Prop :=
  s.budget.committed ≤ s.budget.settings.limit ∧ s.budget.slotsInUse ≤ s.budget.settings.slots

/-- The schedule list holds at most 32 entries of distinct tags, in the order of their dues (R110, R111, R116). -/
def ScheduleSound (s : State) : Prop :=
  s.schedule.length ≤ 32 ∧ s.schedule.Pairwise (fun x y => x.due ≤ y.due) ∧ (s.schedule.map (·.tag)).Nodup

/-- The queues of the link hold what they may hold (R144, R146), and the notice queue at most 24 notices (R165). -/
def QueuesBounded (s : State) : Prop :=
  s.link.queue.length ≤ 4 ∧ s.link.replyList.length ≤ 4 ∧ s.notices.queue.length ≤ 24 ∧ s.notices.lost ≤ 255

/-- ATTN is asserted if and only if the notice queue holds an urgent notice (R170). -/
def AttnAgrees (s : State) : Prop := s.notices.attn = .asserted ↔ ∃ n ∈ s.notices.queue, n.cls = .urgent

/-- The notices in the delivery window: OFFERED or IN_FLIGHT, from the oldest (R166). -/
def Notices.window (u : Notices) : List Notice := u.queue.takeWhile fun n => n.delivery != Delivery.unsent

/-- The delivery window is the oldest part of the queue and holds at most four; in OPEN and not stalled it is full or holds the
whole queue; in a stall the acknowledgement timer is stopped; in CLOSED the window is empty, with every timer of delivery stopped
(R157, R162, R165, R166, R168). -/
def DeliverySound (s : State) : Prop :=
  s.notices.window.length ≤ 4
  ∧ (∀ n ∈ s.notices.queue.drop s.notices.window.length, n.delivery = .unsent ∧ n.frameWaiting = false)
  ∧ s.notices.resend ≤ 3
  ∧ (s.notices.sessionOpen = true → s.notices.stalled = false →
      s.notices.window.length = 4 ∨ s.notices.window = s.notices.queue)
  ∧ (s.notices.stalled = true → s.notices.ackTimer = none)
  ∧ (s.notices.sessionOpen = false →
      s.notices.window = [] ∧ s.notices.keepaliveTimer = none ∧ s.notices.ackTimer = none ∧ s.notices.resend = 0
        ∧ s.notices.stalled = false)

/-- Everything of the above at once. -/
def Sound (s : State) : Prop :=
  ChannelsSound s ∧ BudgetAgrees s ∧ BudgetWithin s ∧ ScheduleSound s ∧ QueuesBounded s ∧ AttnAgrees s ∧ DeliverySound s

end Sys2Proof.Machine
end

