-- ==== Sys2Proof/Certificates/Slice0/Obligations.lean ====
section
/-! DEFINITION. The statements for the provers. A statement about an event that ends with a grant scan and the arbiter's choice
says what stands before that end (`… .settle`, `… .reply e a`); `Obligations.SettleEndsEvent` and
`Obligations.ReplyAnswersEntry` say what that end does. -/

open Sys2Proof Sys2Proof.Machine

/-! The machine as a whole. -/

/-- A step takes the command at the front of the queue and runs it with the queue's rest. -/
def Obligations.StepTakesFront : Prop :=
  ∀ (c : Instr) (rest : List Instr) (s : State), s.pending = c :: rest → step s = exec c { s with pending := rest }

/-- On an empty queue time passes, in the order that the model has chosen (log 2, log 4, log 14). -/
def Obligations.StepPassesTime : Prop :=
  ∀ s : State, s.pending = [] →
    (s.powered = false → step s = .next s)
    ∧ (∀ c rest, s.powered = true → expiries s ++ transits s = c :: rest →
        step s = .next { s with pending := c :: rest })
    ∧ (s.powered = true → expiries s ++ transits s = [] → s.within = false → step s = .next { s with within := true })
    ∧ (∀ stamp, s.powered = true → expiries s ++ transits s = [] → s.within = true → s.sampler.round = some stamp →
        step s = .next { s with pending := [.roundComplete (Config.roundReadings stamp)] })
    ∧ (s.powered = true → expiries s ++ transits s = [] → s.within = true → s.sampler.round = none → s.uptime + 1 < 2 ^ 48 →
        step s = .next
          { s with
            uptime := s.uptime + 1
            within := false
            sampler := { s.sampler with round := some (s.uptime + 1) } })

/-- Every command answers a next state and leaves the queue of commands alone. -/
def Obligations.CommandsKeepQueue : Prop :=
  ∀ (c : Instr) (s : State), ∃ t, exec c s = .next t ∧ t.pending = s.pending

/-- Without the logic supply only the supply and the lines act (log 3). -/
def Obligations.UnsuppliedPartIsInert : Prop :=
  ∀ (c : Instr) (s : State), s.powered = false → c ≠ .powerOn → c ≠ .powerLoss → (∀ l, c ≠ .resetLineChange l) →
    (∀ l, c ≠ .shedLineChange l) → (∀ l, c ≠ .receiveLineChange l) → exec c s = .next s

/-- Every property below holds right after reset. -/
def Obligations.ResetIsSound : Prop := Sound State.reset

/-! Properties that every step keeps. -/

/-- A channel's gate, comparator, timer and retry count keep agreeing with its state (R3, R4, R14). -/
def Obligations.StepKeepsChannelsSound : Prop :=
  ∀ s t : State, ChannelsSound s → step s = .next t → ChannelsSound t

/-- Reservations, slots, queue entries and claims keep agreeing with the channel states (the table of R4). -/
def Obligations.StepKeepsBudgetAgrees : Prop :=
  ∀ s t : State, ChannelsSound s → BudgetAgrees s → step s = .next t → BudgetAgrees t

/-- Committed never exceeds the budget limit, and the slots in use never exceed the start slots (R28). -/
def Obligations.StepKeepsBudgetWithin : Prop :=
  ∀ s t : State, BudgetWithin s → step s = .next t → BudgetWithin t

/-- The schedule list stays in order, with distinct tags and at most 32 entries (R110, R111, R116). -/
def Obligations.StepKeepsScheduleSound : Prop :=
  ∀ s t : State, ScheduleSound s → step s = .next t → ScheduleSound t

/-- The request queue, the reply list and the notice queue stay within their sizes (R144, R146, R165). -/
def Obligations.StepKeepsQueuesBounded : Prop :=
  ∀ s t : State, QueuesBounded s → step s = .next t → QueuesBounded t

/-- ATTN stays asserted if and only if the notice queue holds an urgent notice (R170). -/
def Obligations.StepKeepsAttn : Prop := ∀ s t : State, AttnAgrees s → step s = .next t → AttnAgrees t

/-- The delivery window stays the oldest part of the queue, at most four, and filled, with the acknowledgement timer stopped in a
stall (R162, R165, R166, R168). -/
def Obligations.StepKeepsDeliverySound : Prop := ∀ s t : State, DeliverySound s → step s = .next t → DeliverySound t

/-- Only CHANNEL_CLEAR, CHANNEL_CONFIG, a start of the part and the loss of its supply take a channel out of LATCHED
(R11, R23, R65, R135). -/
def Obligations.LatchedIsLeftOnlyBy : Prop :=
  ∀ (i : Instr) (s t : State) (c : Chan), ChannelsSound s → BudgetAgrees s → exec i s = .next t →
    (s.chan c).state = .latched → (t.chan c).state ≠ .latched →
    i = .channelClear ∨ i = .channelConfig ∨ i = .powerOn ∨ i = .powerLoss ∨ i = .resetFilterExpiry
      ∨ ∃ fate request, i = .restartReplySignal fate request

/-- The trip total (R66): it rises by 1, up to 65,535, at a trip taken in ON with the number of the present arming and at a start
failure; no other command changes it, but for the supply's return and loss, after which it is 0. -/
def Obligations.TripTotalCountsFaults : Prop :=
  ∀ (i : Instr) (s t : State) (c : Chan), exec i s = .next t →
    let k := s.chan c
    let counted := s.powered = true
      ∧ ((∃ arming, i = .tripEvent c arming ∧ arming ∈ k.trips ∧ k.state = .on ∧ k.comparator.armingNumber = arming)
        ∨ (∃ deadline, i = .startTimerExpiry c ∧ k.state = .starting ∧ k.timer = .start deadline ∧ deadline ≤ s.uptime))
    (counted → (t.chan c).tripTotal = min 65535 (k.tripTotal + 1))
    ∧ (i = .powerOn ∨ i = .powerLoss → (t.chan c).tripTotal = 0)
    ∧ (¬counted → i ≠ .powerOn → i ≠ .powerLoss → (t.chan c).tripTotal = k.tripTotal)

/-! The operations that every event shares. -/

/-- The end of an event: the scan that is due, and then the arbiter's choice, which starts what has become ready while the
transmitter is idle (`Obligations.ArbiterChooses` says which frame). Of the link only the transmitter and the phase of a
request may change, and of the notices only whether a frame waits (R33, R150). -/
def Obligations.SettleEndsEvent : Prop :=
  ∀ s : State,
    s.settle = s.runScan.arbitrate
    ∧ s.runScan = { s with budget := s.budget.runScan s.uptime }
    ∧ OnlyChanges eventEnd s s.settle
    ∧ s.settle.budget = s.budget.runScan s.uptime
    ∧ s.settle.link = { s.link with tx := s.settle.link.tx, queue := s.settle.link.queue }
    ∧ s.settle.link.queue.map (fun x => { x with phase := ReqPhase.waiting })
        = s.link.queue.map (fun x => { x with phase := ReqPhase.waiting })
    ∧ s.settle.link.queue.map (fun x => x.phase == ReqPhase.waiting)
        = s.link.queue.map (fun x => x.phase == ReqPhase.waiting)
    ∧ s.settle.notices = { s.notices with queue := s.settle.notices.queue }
    ∧ s.settle.notices.queue.map (fun n => { n with frameWaiting := false })
        = s.notices.queue.map (fun n => { n with frameWaiting := false })

/-- Which frame takes an idle transmitter (R150): the oldest entry's reply when it is ready; else the offered notice that
stands first; while a frame is on the line, or with nothing ready, nothing starts. Where a reply and a notice have both become ready
while it is idle, one of the two starts, and which is a free value (log 5). -/
def Obligations.ArbiterChooses : Prop :=
  ∀ s : State,
    (s.link.tx ≠ .idle → s.arbitrate = s ∧ s.nextFrame = s)
    ∧ (∀ e rest, s.link.tx = .idle → s.link.queue = e :: rest → e.phase = .answered →
        s.nextFrame
          = { s with link := { s.link with queue := { e with phase := .sending } :: rest, tx := .reply e.reply } })
    ∧ (∀ n, s.link.tx = .idle → (∀ e rest, s.link.queue = e :: rest → e.phase ≠ .answered) →
        s.notices.queue.find? (fun x => x.frameWaiting) = some n →
        (s.nextFrame.link = { s.link with tx := .notice n.nseq (noticeFrame n) false } ∧ s.arbitrate = s.nextFrame))
    ∧ (∀ e rest, s.link.tx = .idle → s.link.queue = e :: rest → e.phase = .answered →
        s.notices.queue.find? (fun x => x.frameWaiting) = none → s.arbitrate = s.nextFrame)
    ∧ (∀ e rest n, s.link.tx = .idle → s.link.queue = e :: rest → e.phase = .answered →
        s.notices.queue.find? (fun x => x.frameWaiting) = some n →
        s.arbitrate = { s.nextFrame with draws := s.draws + 1 }
        ∨ (s.arbitrate.link = { s.link with tx := .notice n.nseq (noticeFrame n) false }
          ∧ OnlyChanges [.link, .notices, .draws] s s.arbitrate))
    ∧ ((∀ e rest, s.link.queue = e :: rest → e.phase ≠ .answered) →
        s.notices.queue.find? (fun x => x.frameWaiting) = none → s.arbitrate = s ∧ s.nextFrame = s)

/-- One walk of the admission queue (R35): the entry it grants fits the headroom; every entry before it was skipped for the
SHED level, or passed for lack of headroom below the bypass limit, and only a passed one gains 1. A grant scan (R33 to R35): it
runs where it is due; it grants nothing while the bus is not good or no start slot is free; else the first claim is granted and
the scan goes on; with no claim left the entry that a walk from the head gives is granted and the next walk starts at the head
again, until a walk grants none. -/
def Obligations.WalkGrantsFirstThatFits : Prop :=
  (∀ (shed : Level) (headroom limit : Nat) (queue rest : List Waiting) (e : Waiting),
    walkQueue shed headroom limit queue = some (e, rest) ↔
    ∃ passed behind, queue = passed ++ e :: behind
      ∧ rest = passed.map (fun x =>
          if shed = .asserted ∧ 1 ≤ x.cls then x else { x with bypass := x.bypass + 1 }) ++ behind
      ∧ (∀ x ∈ passed, (shed = .asserted ∧ 1 ≤ x.cls) ∨ (headroom < x.allowance ∧ x.bypass < limit))
      ∧ ¬(shed = .asserted ∧ 1 ≤ e.cls) ∧ e.allowance ≤ headroom)
  ∧ ∀ (b : Budget) (now : Nat),
    let walk := walkQueue b.shedLevel (b.settings.limit - b.committed) b.settings.bypassLimit b.queue
    (b.scanDue = false → b.runScan now = b)
    ∧ (b.scanDue = true → b.runScan now = { b.scan now with scanDue := false })
    ∧ (b.busGood = false ∨ b.settings.slots ≤ b.slotsInUse → b.scan now = b)
    ∧ (∀ x rest, b.busGood = true → b.slotsInUse < b.settings.slots → b.claims = x :: rest →
        b.scan now = Budget.scan
          { b with
            records := b.records.set x.chan ((b.records.get x.chan).map fun r : Reservation =>
              { r with phase := .starting, slot := true, grantTaken := false, claimWaiting := false, grantStamp := now })
            claims := rest
            grants := b.grants ++ [.cycleReturn x.chan x.number] } now)
    ∧ (∀ e rest, b.busGood = true → b.slotsInUse < b.settings.slots → b.claims = [] → walk = some (e, rest) →
        b.scan now = Budget.scan
          { b with
            queue := rest
            records := b.records.set e.chan (some
              { amount := e.allowance, cls := e.cls, grantStamp := now, phase := .starting, slot := true, grantTaken := false
                claimWaiting := false })
            grants := b.grants ++ [.queue e.chan e.joinNumber] } now)
    ∧ (b.claims = [] → walk = none → b.scan now = b)

/-- Shed rank (R39): the candidate chosen is held, and no other candidate has a higher class, or in its class a later grant
stamp, or with the same stamp a higher channel number; none is chosen only where there is no candidate. -/
def Obligations.ShedRankFirst : Prop :=
  ∀ (b : Budget) (candidate : Reservation → Bool),
    (∀ c r, b.firstInRank candidate = some (c, r) →
      b.records.get c = some r ∧ candidate r = true
      ∧ ∀ d q, b.records.get d = some q → candidate q = true → d ≠ c →
          q.cls < r.cls ∨ (q.cls = r.cls ∧ q.grantStamp < r.grantStamp)
            ∨ (q.cls = r.cls ∧ q.grantStamp = r.grantStamp ∧ d.toNat < c.toNat))
    ∧ (b.firstInRank candidate = none → ∀ d q, b.records.get d = some q → candidate q = false)

/-- What a posted notice meets (R163 to R166, R170): unsubscribed it leaves no trace; it joins a queue of fewer than 24, UNSENT and
with its class, stamp and channel; an urgent one evicts the oldest routine UNSENT notice of a full queue; else it is dropped and
counted. Then the window is filled in OPEN while not stalled, and ATTN is set. -/
def Obligations.PostMeetsQueue : Prop :=
  ∀ (u : Notices) (now : Nat) (chan : Option Chan) (body : NoticeBody),
    let kept (q : List Notice) := q.map fun n => (n.nseq, n.cls, n.stamp, n.chan, n.lost, n.body)
    let filled (q : List Notice) :=
      if u.sessionOpen = true ∧ u.stalled = false then offerUnsent (4 - windowCount q) q else q
    let new (lost : Nat) : Notice :=
      { nseq := u.nextNseq, cls := body.cls, stamp := now, chan := chan, body := body, lost := lost, delivery := .unsent
        frameWaiting := false }
    let v := u.post now chan body
    v = { u with queue := v.queue, nextNseq := v.nextNseq, lost := v.lost, attn := v.attn }
    ∧ (u.subscriptions.getLsbD body.kind.index = false → v = u)
    ∧ (u.subscriptions.getLsbD body.kind.index = true → (v.attn = .asserted ↔ ∃ n ∈ v.queue, n.cls = .urgent))
    ∧ (u.subscriptions.getLsbD body.kind.index = true → u.queue.length < 24 →
        v.queue = filled (u.queue ++ [new u.lost])
          ∧ kept v.queue = kept u.queue ++ [(u.nextNseq, body.cls, now, chan, u.lost, body)]
          ∧ v.nextNseq = (if u.nextNseq < 65535 then u.nextNseq + 1 else 0) ∧ v.lost = 0)
    ∧ (∀ before n behind, u.subscriptions.getLsbD body.kind.index = true → u.queue.length = 24 → body.cls = .urgent →
        u.queue = before ++ n :: behind → n.cls = .routine → n.delivery = .unsent →
        (∀ x ∈ before, ¬(x.cls = .routine ∧ x.delivery = .unsent)) →
        v.queue = filled (before ++ behind ++ [new (min 255 (u.lost + 1))])
          ∧ kept v.queue = kept (before ++ behind) ++ [(u.nextNseq, body.cls, now, chan, min 255 (u.lost + 1), body)]
          ∧ v.nextNseq = (if u.nextNseq < 65535 then u.nextNseq + 1 else 0) ∧ v.lost = 0)
    ∧ (u.subscriptions.getLsbD body.kind.index = true → u.queue.length = 24 →
        (body.cls = .routine ∨ ∀ x ∈ u.queue, ¬(x.cls = .routine ∧ x.delivery = .unsent)) →
        v.queue = filled u.queue ∧ kept v.queue = kept u.queue ∧ v.nextNseq = u.nextNseq
          ∧ v.lost = min 255 (u.lost + 1))

/-- The answer to a request entry (R147, R149): the entry takes its reply frame and what it awaits and is ANSWERED; the other
entries, the rest of the link and the notices stay as they are; then the event ends. What stands after that end: the entry is
WAITING no longer, and the other entries keep all but their phase. -/
def Obligations.ReplyAnswersEntry : Prop :=
  ∀ (s : State) (e : ReqEntry) (a : Answer),
    s.reply e a =
      { s with
        link :=
          { s.link with
            queue := s.link.queue.map fun x : ReqEntry =>
              if x.id = e.id then
                { x with phase := .answered, reply := replyFrame e.kind e.seq a.status a.fields, awaiting := a.awaiting }
              else x } }.settle
    ∧ OnlyChanges eventEnd s (s.reply e a)
    ∧ (s.reply e a).budget = s.budget.runScan s.uptime
    ∧ (s.reply e a).link.queue.map (fun x => { x with phase := ReqPhase.waiting })
        = s.link.queue.map (fun x =>
            if x.id = e.id then
              { x with phase := .waiting, reply := replyFrame e.kind e.seq a.status a.fields, awaiting := a.awaiting }
            else { x with phase := .waiting })
    ∧ (s.reply e a).link.queue.map (fun x => x.phase == ReqPhase.waiting)
        = s.link.queue.map (fun x => x.phase == ReqPhase.waiting && x.id != e.id)

/-! The host's requests. -/

/-- The checks of the dispatch order that a request can fail, and a KIND that is not assigned (R148, R174): each is answered
with its status alone, and nothing else happens. -/
def Obligations.DispatchChecks : Prop :=
  ∀ (s : State) (e : ReqEntry), s.powered = true → s.link.oldestWaiting = some e → e.signalWait = 0 →
    (ReqKind.ofCode? e.kind = none → exec .unknownKind s = .next (s.afterBoundary.reply e (answer .unknownKind [])))
    ∧ ∀ k : ReqKind, e.kind = k.code →
      (e.payload.length ≠ k.length →
        exec (requestCommand k) s = .next (s.afterBoundary.reply e (answer .badLength [])))
      ∧ (e.payload.length = k.length → k.needsSession e.payload = true → s.notices.sessionOpen = false →
          exec (requestCommand k) s = .next (s.afterBoundary.reply e (answer .noSession [])))
      ∧ (e.payload.length = k.length → (k.needsSession e.payload = true → s.notices.sessionOpen = true) →
          fieldsInRange k e.payload = false →
          exec (requestCommand k) s = .next (s.afterBoundary.reply e (answer .badField [])))

/-- The queries that change no state answer OK with the fields of their rules (R24, R50, R79, R95, R119, R131, R155, R161). The
keepalive that PING reports in CLOSED is the model's free value (log 10), and then the counter of free values moves. -/
def Obligations.QueriesAnswer : Prop :=
  ∀ (s : State) (e : ReqEntry),
    let pingFields (keepalive : Nat) : List Byte :=
      be 1 (flagBits [s.notices.sessionOpen, s.notices.stalled]) ++ be 2 keepalive
        ++ be 2 (remaining s.notices.keepaliveTimer s.uptime) ++ be 1 s.notices.queue.length
        ++ be 1 (s.notices.queue.filter fun n => n.delivery == Delivery.inFlight).length ++ be 6 s.uptime
    (Dispatches s .identify e →
      exec .identify s = .next (s.afterBoundary.reply e (answer .ok
        (be 2 0x0E21 ++ be 2 0x0108 ++ be 1 0x01 ++ be 4 Config.serialNumber.toNat))))
    ∧ (∀ cs, Dispatches s .channelQuery e → parseChannelQuery e.payload = some cs →
        exec .channelQuery s = .next (s.afterBoundary.reply e (answer .ok
          (cs.flatMap fun c => channelRecord s.uptime c (s.chan c)))))
    ∧ (Dispatches s .budgetQuery e →
        exec .budgetQuery s = .next (s.afterBoundary.reply e (answer .ok (budgetFields s.budget s.uptime))))
    ∧ (∀ cs, Dispatches s .measureRead e → parseMask e.payload = some cs →
        exec .measureRead s = .next (s.afterBoundary.reply e (answer .ok
          (be 1 (flagBits [s.sampler.latestValid, s.sampler.latest.bus.totalOver]) ++ be 2 s.sampler.latest.bus.voltage
            ++ be 6 s.sampler.latest.bus.stamp ++ be 4 s.sampler.latest.bus.total
            ++ cs.flatMap fun c => resultEntry c (s.sampler.results.get c)))))
    ∧ (∀ ns, Dispatches s .watchQuery e → parseWatchQuery e.payload = some ns →
        exec .watchQuery s = .next (s.afterBoundary.reply e (answer .ok
          (ns.flatMap fun n => watchEntry n (s.watchAt n)))))
    ∧ (∀ first, Dispatches s .schedList e → parseSchedList e.payload = some first →
        exec .schedList s = .next (s.afterBoundary.reply e (answer .ok
          (be 6 s.uptime ++ be 1 s.schedule.length ++ ((s.schedule.drop first).take 8).flatMap schedEntry))))
    ∧ (Dispatches s .profileQuery e →
        exec .profileQuery s = .next (s.afterBoundary.reply e (answer .ok (profileFields s.profile))))
    ∧ (Dispatches s .ping e → s.notices.sessionOpen = true →
        exec .ping s = .next (s.afterBoundary.reply e (answer .ok (pingFields s.notices.keepalive))))
    ∧ (Dispatches s .ping e → s.notices.sessionOpen = false →
        exec .ping s = .next ({ s.afterBoundary with draws := s.draws + 1 }.reply e
          (answer .ok (pingFields (Config.closedKeepalive s.draws).toNat))))

/-- LINK_STATUS (R154): without clear it needs no session, with clear it does; the reply has the statistics as they stand before
any clear, and with clear they become 0 in the same event. It is served in every save state and sets no unsaved-changes flag. -/
def Obligations.LinkStatusReadsThenClears : Prop :=
  ∀ (s : State) (e : ReqEntry) (clear : Bool), s.powered = true → s.link.oldestWaiting = some e →
    e.kind = ReqKind.linkStatus.code → e.signalWait = 0 → e.payload.length = 1 → parseLinkStatus e.payload = some clear →
    let x := s.link.stats
    let fields :=
      be 2 x.crcErrors ++ be 2 x.framingAborts ++ be 2 x.overrunDiscards ++ be 2 x.duplicatesReplied
        ++ be 2 x.duplicatesDiscarded ++ be 1 (LinkRate.code s.link.rateInUse) ++ be 1 (LinkRate.code s.link.configuredRate)
        ++ be 1 s.link.queue.length ++ be 1 s.link.replyList.length ++ be 1 clear.toNat
    (clear = false → exec .linkStatus s = .next (s.afterBoundary.reply e (answer .ok fields)))
    ∧ (clear = true → s.notices.sessionOpen = true → exec .linkStatus s = .next
        ({ s.afterBoundary with link := { s.link with stats := ⟨0, 0, 0, 0, 0⟩ } }.reply e (answer .ok fields)))
    ∧ (clear = true → s.notices.sessionOpen = false →
        exec .linkStatus s = .next (s.afterBoundary.reply e (answer .noSession [])))

/-- ENERGY_READ and PEAK_READ answer what stands; with restart exactly the accumulators of the mask, with clear exactly the peak
records of the mask and, with the bus flag, the bus minimum, begin a new period after the snapshot (R101 to R103, R106, R107). The
snapshot stamp of a snapshot that is not valid is the model's free value (log 35), and then the counter of free values moves; so
is the period start after the greatest uptime (log 12). -/
def Obligations.MeterReads : Prop :=
  ∀ (s : State) (e : ReqEntry),
    let stamp := match s.meter.snapshot with
      | some x => x
      | none => (Config.invalidSnapshot s.draws).toNat
    let drawn := if s.meter.snapshot = none then s.draws + 1 else s.draws
    let start := match s.meter.snapshot with
      | some x => if x + 1 < 2 ^ 48 then x + 1 else Config.uptimeAfterLast.toNat
      | none => 0
    (∀ cs restart, Dispatches s .energyRead e → parseEnergyRead e.payload = some (cs, restart) →
      ∃ m : Meter,
        exec .energyRead s = .next ({ s.afterBoundary with meter := m, draws := drawn }.reply e (answer .ok
          (be 1 (flagBits [s.meter.snapshot.isSome, restart]) ++ be 6 stamp
            ++ cs.flatMap fun c => energyEntry c (s.meter.energy.get c))))
        ∧ m = { s.meter with energy := m.energy }
        ∧ ∀ c, m.energy.get c =
            if restart = true ∧ c ∈ cs then
              { energy := 0, rollover := 0, residue := 0, count := 0, full := false, overFlag := false, periodStart := start }
            else s.meter.energy.get c)
    ∧ (∀ cs bus clear, Dispatches s .peakRead e → parsePeakRead e.payload = some (cs, bus, clear) →
      ∃ m : Meter,
        exec .peakRead s = .next ({ s.afterBoundary with meter := m, draws := drawn }.reply e (answer .ok
          (be 1 (flagBits [s.meter.snapshot.isSome, clear, bus]) ++ be 6 stamp
            ++ (cs.flatMap fun c => peakEntry c (s.meter.peaks.get c))
            ++ if bus then be 2 s.meter.bus.voltage ++ be 6 s.meter.bus.stamp ++ be 6 s.meter.bus.periodStart else [])))
        ∧ m.energy = s.meter.energy ∧ m.snapshot = s.meter.snapshot
        ∧ m.bus = (if clear = true ∧ bus = true then { voltage := 65535, stamp := 0, periodStart := start } else s.meter.bus)
        ∧ ∀ c, m.peaks.get c =
            if clear = true ∧ c ∈ cs then
              { current := 0, currentStamp := 0, currentOver := false, power := 0, powerStamp := 0, powerOver := false
                periodStart := start }
            else s.meter.peaks.get c)

/-- LINK_CONFIG and SUBSCRIBE: refused with PROFILE_BUSY during a save; else the configured rate, or the subscription set,
takes the new value and the unsaved-changes flag is set; the rate in use stays (R130, R139, R163). -/
def Obligations.LinkConfigAndSubscribeSet : Prop :=
  ∀ (s : State) (e : ReqEntry),
    (∀ rate, Dispatches s .linkConfig e → parseLinkConfig e.payload = some rate →
      (s.profile.saveState ≠ .idle →
        exec .linkConfig s = .next (s.afterBoundary.reply e (answer .profileBusy [0, 0])))
      ∧ (s.profile.saveState = .idle → exec .linkConfig s = .next
          ({ s.afterBoundary with
              link := { s.link with configuredRate := rate }, profile := { s.profile with unsaved := true } }.reply e
            (answer .ok (be 1 (LinkRate.code s.link.rateInUse) ++ be 1 (LinkRate.code rate))))))
    ∧ (∀ set, Dispatches s .subscribe e → parseSubscribe e.payload = some set →
      (s.profile.saveState ≠ .idle →
        exec .subscribe s = .next (s.afterBoundary.reply e (answer .profileBusy [0, 0])))
      ∧ (s.profile.saveState = .idle → exec .subscribe s = .next
          ({ s.afterBoundary with
              notices := { s.notices with subscriptions := set }, profile := { s.profile with unsaved := true } }.reply e
            (answer .ok (be 2 set.toNat)))))

/-- SESSION_OPEN (R158): refused in OPEN with nothing changed; in CLOSED the session opens with its keepalive timer, and the
oldest notices, up to four in the window, are offered. SESSION_CLOSE (R161, R162): the session ends and every notice becomes
UNSENT. A dispatch comes after the millisecond boundary by the model's reading of R1 (log 4), so a keepalive of k ms expires at
uptime + k + 1. -/
def Obligations.SessionOpensAndCloses : Prop :=
  ∀ (s : State) (e : ReqEntry),
    (∀ k, Dispatches s .sessionOpen e → parseSessionOpen e.payload = some k → s.notices.sessionOpen = true →
      exec .sessionOpen s = .next (s.afterBoundary.reply e (answer .sessionActive (List.replicate 10 0))))
    ∧ (∀ k, Dispatches s .sessionOpen e → parseSessionOpen e.payload = some k → s.notices.sessionOpen = false →
      exec .sessionOpen s = .next
        ({ s.afterBoundary with
            notices :=
              { s.notices with
                sessionOpen := true
                keepalive := k
                keepaliveTimer := if k = 0 then none else some (s.uptime + k + 1)
                openedStamp := s.uptime
                resend := 0
                stalled := false
                queue := offerUnsent (4 - windowCount s.notices.queue) s.notices.queue } }.reply e
          (answer .ok (be 2 (match s.notices.queue with | [] => s.notices.nextNseq | n :: _ => n.nseq)
            ++ be 1 s.notices.queue.length ++ be 1 s.notices.lost ++ be 6 s.uptime))))
    ∧ (Dispatches s .sessionClose e →
      ∃ t, exec .sessionClose s = .next (t.reply e (answer .ok (be 1 s.notices.queue.length)))
        ∧ OnlyChanges [.within, .notices, .link] s t
        ∧ t.notices =
            { s.notices with
              sessionOpen := false
              keepaliveTimer := none
              queue := s.notices.queue.map fun n => { n with delivery := .unsent, frameWaiting := false }
              ackTimer := none
              resend := 0
              stalled := false
              sentSignals := [] }
        ∧ t.link = { s.link with tx := match s.link.tx with | .notice n frame _ => .notice n frame true | x => x })

/-- NOTICE_ACK (R167): with the notice IN_FLIGHT, it and every older notice leave the queue, the resend count becomes 0, the
timer is restarted for 200 ms or stopped, and the window is filled; else nothing changes but the reply. A dispatch comes after
the millisecond boundary by the model's reading of R1 (log 4), so the timer expires at uptime + 201; that it stays stopped in a
stall is R168's, which the model follows where R167 names no stall (log 37). -/
def Obligations.NoticeAckRemoves : Prop :=
  ∀ (s : State) (e : ReqEntry) (nseq : Nat), Dispatches s .noticeAck e → parseNumber e.payload = some nseq →
    (∀ older n rest, s.notices.queue = older ++ n :: rest → (∀ x ∈ older, x.nseq ≠ nseq) → n.nseq = nseq →
      n.delivery = .inFlight →
      ∃ t, exec .noticeAck s = .next (t.reply e (answer .ok
          (be 1 (older.length + 1) ++ be 2 (match rest with | [] => s.notices.nextNseq | x :: _ => x.nseq)
            ++ be 1 rest.length)))
        ∧ OnlyChanges [.within, .notices] s t
        ∧ t.notices.resend = 0
        ∧ t.notices.ackTimer =
            (if s.notices.stalled = false ∧ ∃ x ∈ rest, x.delivery = .inFlight then some (s.uptime + 201) else none)
        ∧ t.notices.stalled = s.notices.stalled
        ∧ t.notices.queue =
            (if s.notices.stalled = true then rest else offerUnsent (4 - windowCount rest) rest)
        ∧ (t.notices.attn = .asserted ↔ ∃ x ∈ rest, x.cls = .urgent))
    ∧ ((∀ x ∈ s.notices.queue, ¬(x.nseq = nseq ∧ x.delivery = .inFlight)) →
      exec .noticeAck s = .next (s.afterBoundary.reply e (answer .notInFlight
        (be 1 0 ++ be 2 (match s.notices.queue with | [] => s.notices.nextNseq | n :: _ => n.nseq)
          ++ be 1 s.notices.queue.length))))

/-- CHANNEL_CONFIG (R22, R23, R60, R77): refused during a save and in the states that hold an entry, a reservation or a timer;
else the configuration is replaced, the channel moves by enabled, and the reporting block starts afresh only where the window
changes. The result stays as it stood; that one which is not valid keeps its old window too is the model's choice (log 34). -/
def Obligations.ChannelConfigReplaces : Prop :=
  ∀ (s : State) (e : ReqEntry) (c : Chan) (cfg : ChannelConfig), Dispatches s .channelConfig e →
    parseChannelConfig e.payload = some (c, cfg) →
    let k := s.chan c
    let holds := k.state ≠ .disabled ∧ k.state ≠ .off ∧ k.state ≠ .latched
    (s.profile.saveState ≠ .idle → exec .channelConfig s = .next (s.afterBoundary.reply e
      (answer .profileBusy (be 1 c.toNat ++ be 1 (ChState.code k.state)))))
    ∧ (s.profile.saveState = .idle → holds → exec .channelConfig s = .next (s.afterBoundary.reply e
      (answer .inUse (be 1 c.toNat ++ be 1 (ChState.code k.state)))))
    ∧ (s.profile.saveState = .idle → ¬holds →
      ∃ t, exec .channelConfig s = .next (t.reply e
          (answer .ok (be 1 c.toNat ++ be 1 (ChState.code (t.chan c).state))))
        ∧ OnlyChanges [.within, .chan c, .sampler, .profile] s t
        ∧ t.profile = { s.profile with unsaved := true }
        ∧ t.chan c =
            { k with
              cfg := cfg
              state := if cfg.enabled = false then .disabled else if k.state = .disabled then .off else k.state
              retryCount := if cfg.enabled = false ∧ k.state ≠ .disabled then 0 else min k.retryCount cfg.retryLimit
              lastOff := if cfg.enabled = true ∧ k.state = .disabled then .none else k.lastOff }
        ∧ t.sampler =
            (if k.cfg.reportWindow = cfg.reportWindow then s.sampler
             else { s.sampler with blocks := s.sampler.blocks.set c ⟨cfg.reportWindow, 0, 0, 0, 0, false⟩ }))

/-- CHANNEL_ON by the channel's state (the table of R8): an OFF channel whose allowance fits the limit joins the queue at the
tail of its class with origin HOST; in every other case nothing changes and the status is the table's. -/
def Obligations.ChannelOnOutcomes : Prop :=
  ∀ (s : State) (e : ReqEntry) (c : Chan), Dispatches s .channelOn e → parseChan e.payload = some c →
    let k := s.chan c
    let refused (st : Status) : Prop :=
      exec .channelOn s = .next (s.afterBoundary.reply e (answer st
        (be 1 c.toNat ++ be 1 (ChState.code k.state) ++ be 1 k.cyclePending.isSome.toNat)))
    (k.state = .off → k.cfg.allowance ≤ s.budget.settings.limit →
      ∃ t, exec .channelOn s = .next (t.reply e
          (answer .ok (be 1 c.toNat ++ be 1 2 ++ be 1 k.cyclePending.isSome.toNat)))
        ∧ OnlyChanges [.within, .chan c, .budget] s t
        ∧ t.chan c = { k with state := .queued, joinNumber := s.budget.nextJoin }
        ∧ t.budget =
            { s.budget with
              queue := s.budget.queue.takeWhile (fun x => x.cls ≤ k.cfg.cls)
                ++ { chan := c, cls := k.cfg.cls, allowance := k.cfg.allowance, joinStamp := s.uptime, origin := .host
                     bypass := 0, joinNumber := s.budget.nextJoin }
                  :: s.budget.queue.dropWhile (fun x => x.cls ≤ k.cfg.cls)
              nextJoin := if s.budget.nextJoin < 65535 then s.budget.nextJoin + 1 else 0
              scanDue := true })
    ∧ (k.state = .off → s.budget.settings.limit < k.cfg.allowance → refused .tooLarge)
    ∧ (k.state = .queued ∨ k.state = .starting → refused .already)
    ∧ (k.state = .on → k.cyclePending = none → refused .already)
    ∧ (k.state = .on → k.cyclePending ≠ none → refused .busy)
    ∧ (k.state = .cycleOff → refused .busy)
    ∧ (k.state = .cooldown → refused .cooling)
    ∧ (k.state = .latched → refused .latched)
    ∧ (k.state = .disabled → refused .notConfigured)

/-- CHANNEL_OFF by the channel's state (the table of R9, R5): from QUEUED, STARTING, ON, CYCLE_OFF and COOLDOWN the channel
becomes OFF with reason HOST, its gate off, its timer and cycle cancelled, and gives up its entry, claim, slot and reservation;
else nothing changes. -/
def Obligations.ChannelOffOutcomes : Prop :=
  ∀ (s : State) (e : ReqEntry) (c : Chan), Dispatches s .channelOff e → parseChan e.payload = some c →
    let k := s.chan c
    let refused (st : Status) : Prop :=
      exec .channelOff s = .next (s.afterBoundary.reply e (answer st
        (be 1 c.toNat ++ be 1 (ChState.code k.state) ++ be 1 k.cyclePending.isSome.toNat)))
    (k.state ≠ .off → k.state ≠ .latched → k.state ≠ .disabled →
      ∃ t, exec .channelOff s = .next (t.reply e (answer .ok (be 1 c.toNat ++ be 1 1 ++ be 1 0)))
        ∧ OnlyChanges [.within, .chan c, .budget] s t
        ∧ t.chan c =
            { k with
              state := .off
              gate := .off
              comparator := { k.comparator with armed := false, filterRunning := false }
              timer := .none
              cyclePending := none
              cycleReturnWaiting := false
              lastOff := .host }
        ∧ t.budget =
            { s.budget with
              records := s.budget.records.set c none
              claims := s.budget.claims.filter fun x => x.chan != c
              queue := s.budget.queue.filter fun x => x.chan != c
              scanDue := s.budget.scanDue || (s.budget.records.get c).isSome || s.budget.queue.any fun x => x.chan == c })
    ∧ (k.state = .off → refused .already)
    ∧ (k.state = .latched → refused .latched)
    ∧ (k.state = .disabled → refused .notConfigured)

/-- CHANNEL_CYCLE by the channel's state (the table of R10, R18, R151): in ON with no cycle pending the channel stays ON and
records the request, whose reply awaits its signal; else nothing changes. CHANNEL_CLEAR (R11): in LATCHED the channel becomes OFF
with retry count 0, and the trip total, the last off reason and the queue stay as they are; in any other state nothing changes. -/
def Obligations.ChannelCycleAndClear : Prop :=
  (∀ (s : State) (e : ReqEntry) (c : Chan), Dispatches s .channelCycle e → parseChan e.payload = some c →
      let k := s.chan c
      let refused (st : Status) : Prop :=
        exec .channelCycle s = .next (s.afterBoundary.reply e (answer st
          (be 1 c.toNat ++ be 1 (ChState.code k.state) ++ be 1 k.cyclePending.isSome.toNat)))
      (k.state = .on → k.cyclePending = none →
        exec .channelCycle s = .next
          ({ s.afterBoundary with chans := s.chans.set c { k with cyclePending := some e.id } }.reply e
            { status := .ok, fields := be 1 c.toNat ++ be 1 4 ++ be 1 1, awaiting := .cycle c }))
      ∧ (k.state = .on → k.cyclePending ≠ none → refused .busy)
      ∧ (k.state = .cycleOff → refused .busy)
      ∧ (k.state = .starting ∨ k.state = .queued ∨ k.state = .off ∨ k.state = .cooldown → refused .notOn)
      ∧ (k.state = .latched → refused .latched)
      ∧ (k.state = .disabled → refused .notConfigured))
  ∧ (∀ (s : State) (e : ReqEntry) (c : Chan), Dispatches s .channelClear e → parseChan e.payload = some c →
      let k := s.chan c
      (k.state = .latched →
        exec .channelClear s = .next
          ({ s.afterBoundary with chans := s.chans.set c { k with state := .off, retryCount := 0 } }.reply e
            (answer .ok (be 1 c.toNat ++ be 1 1 ++ be 1 k.cyclePending.isSome.toNat))))
      ∧ (k.state ≠ .latched →
        exec .channelClear s = .next (s.afterBoundary.reply e (answer .already
          (be 1 c.toNat ++ be 1 (ChState.code k.state) ++ be 1 k.cyclePending.isSome.toNat)))))

/-- BUDGET_CONFIG (R48, R49): the refusals in their order, with nothing changed. An acceptance replaces the settings; sheds with
reason SHED_BUDGET, in shed rank, exactly the held records that sheds come to with committed still above the new limit, and posts
their SHED notices; then removes every entry above the limit, whose channel becomes OFF with reason BUDGET and posts its
CHANNEL_STATE notice; caps the bypass counts; tests the bus again; leaves a scan due. Every other entry, record and channel stays.
The removals come in admission order, which is the model's choice (log 33). -/
def Obligations.BudgetConfigOutcomes : Prop :=
  ∀ (s : State) (e : ReqEntry) (b : BudgetSettings) (force : Bool), Dispatches s .budgetConfig e →
    parseBudgetConfig e.payload = some (b, force) →
    let refused (st : Status) : Prop :=
      exec .budgetConfig s = .next (s.afterBoundary.reply e (answer st
        (be 2 s.budget.committed ++ be 2 (s.budget.settings.limit - s.budget.committed) ++ [0, 0])))
    (s.profile.saveState ≠ .idle → refused .profileBusy)
    ∧ (s.profile.saveState = .idle → b.slots < s.budget.slotsInUse → refused .slotsInUse)
    ∧ (s.profile.saveState = .idle → s.budget.slotsInUse ≤ b.slots → b.limit < s.budget.committed → force = false →
        refused .budgetInUse)
    ∧ (s.profile.saveState = .idle → s.budget.slotsInUse ≤ b.slots → s.budget.committed ≤ b.limit ∨ force = true →
      let a := { s.afterBoundary with budget := { s.budget with settings := b } }
      ∃ order u t,
        a.budget.InRank a.budget.Excess order ∧ ShedsDone .budget a u order
        ∧ (let removed := (u.budget.queue.filter fun x => decide (b.limit < x.allowance)).map (·.chan)
          let shedPosted := (a.postAll (shedNotices .budget a u s.budget.committed order)).notices
          exec .budgetConfig s = .next (t.reply e (answer .ok
            (be 2 t.budget.committed ++ be 2 (b.limit - t.budget.committed) ++ be 1 (maskOf order) ++ be 1 (maskOf removed))))
          ∧ OnlyChanges ([.within, .budget, .notices, .profile] ++ Chan.all.map Part.chan) s t
          ∧ t.profile = { s.profile with unsaved := true }
          ∧ (∀ c, t.chan c =
              if c ∈ removed then
                { u.chan c with
                  state := .off
                  gate := .off
                  comparator := { (u.chan c).comparator with armed := false, filterRunning := false }
                  timer := .none
                  cyclePending := none
                  cycleReturnWaiting := false
                  lastOff := .budget }
              else u.chan c)
          ∧ t.budget =
              { u.budget with
                records := PerChan.ofFn fun c => if c ∈ removed then none else u.budget.records.get c
                claims := u.budget.claims.filter fun x => decide (x.chan ∉ removed)
                queue := (u.budget.queue.filter fun x => decide (x.chan ∉ removed)).map fun x =>
                  { x with bypass := min x.bypass b.bypassLimit }
                busGood := match s.budget.lastBus with
                  | some v => decide (b.busMinimum ≤ v)
                  | none => s.budget.busGood
                scanDue := true }
          ∧ (BudgetAgrees s → t.notices =
              removed.foldl (fun v c => v.post s.uptime (some c) (.channelState (u.chan c).state .off .budget .budget))
                shedPosted)
          ∧ t.budget.committed ≤ b.limit
          ∧ (∀ x ∈ t.budget.queue, x.allowance ≤ b.limit ∧ x.bypass ≤ b.bypassLimit)
          ∧ (s.budget.committed ≤ b.limit → order = [])))

/-- WATCH_SET, WATCH_DELETE and WATCH_CLEAR (R92 to R94). The value, over-range and stamp of the last average that WATCH_SET
makes not valid are the model's free value (log 20), and then the counter of free values moves. -/
def Obligations.WatchRequestsWrite : Prop :=
  ∀ (s : State) (e : ReqEntry) (n : Nat),
    (∀ w, Dispatches s .watchSet e → parseWatchSet e.payload = some (n, w) →
      (s.profile.saveState ≠ .idle → exec .watchSet s = .next (s.afterBoundary.reply e (answer .profileBusy [0])))
      ∧ (s.profile.saveState = .idle → exec .watchSet s = .next
          ({ s.afterBoundary with
              draws := s.draws + 1
              watches := s.watches.set n (some
                { cfg := w, level := .low, raised := false, rises := 0, count := 0, sum := 0, overFlag := false
                  last :=
                    { valid := false, value := (Config.invalidAverage s.draws).1.toNat
                      overFlag := (Config.invalidAverage s.draws).2.1, stamp := (Config.invalidAverage s.draws).2.2.toNat } })
              profile := { s.profile with unsaved := true } }.reply e (answer .ok (be 1 n)))))
    ∧ (Dispatches s .watchDelete e → parseRecord e.payload = some n →
      (s.profile.saveState ≠ .idle → exec .watchDelete s = .next (s.afterBoundary.reply e (answer .profileBusy [0])))
      ∧ (s.profile.saveState = .idle → s.watchAt n = none →
          exec .watchDelete s = .next (s.afterBoundary.reply e (answer .already (be 1 n))))
      ∧ (s.profile.saveState = .idle → s.watchAt n ≠ none → exec .watchDelete s = .next
          ({ s.afterBoundary with
              watches := s.watches.set n none, profile := { s.profile with unsaved := true } }.reply e
            (answer .ok (be 1 n)))))
    ∧ (Dispatches s .watchClear e → parseRecord e.payload = some n →
      (s.watchAt n = none → exec .watchClear s = .next (s.afterBoundary.reply e (answer .noSuchWatch [0, 0])))
      ∧ (∀ w : Watch, s.watchAt n = some w →
          let raised := decide (w.cfg.mode = .live) && decide (w.level = WatchLevel.high)
          exec .watchClear s = .next
            ({ s.afterBoundary with watches := s.watches.set n (some { w with raised := raised }) }.reply e
              (answer .ok (be 1 n ++ be 1 (flagBits [decide (w.level = WatchLevel.high), raised]))))))

/-- SCHED_ADD (R116, R117): the refusals in their order, with the list as it was; an accepted entry is placed by its due, and a due
pass ends the request, in which it fires where it is already due, as do entries that still wait. They fire in list order, so that a
waiting entry fires first unless the new due is before its own, which is the model's choice (log 39). An entry whose due is still to
come, behind a list with nothing due, is only placed; one already due in an empty list fires alone, and periodic it stays in the
list. A due past the greatest uptime is the model's free value (log 36). -/
def Obligations.SchedAddPlaces : Prop :=
  ∀ (s : State) (e : ReqEntry) (f : SchedAddFields), Dispatches s .schedAdd e → parseSchedAdd e.payload = some f →
    let boundary := s.uptime + f.time + 1
    let formed := match f.form with
      | .delay =>
        if f.time = 0 then s.uptime else if boundary < 2 ^ 48 then boundary else (Config.dueAfterLast boundary).toNat
      | .absolute => f.time
    let entry : SchedEntry :=
      { tag := f.tag, chan := f.chan, action := f.action, due := formed, period := f.period, insertion := s.uptime
        missed := 0 }
    let placed := s.schedule.takeWhile (fun x : SchedEntry => x.due ≤ formed) ++ entry
      :: s.schedule.dropWhile (fun x : SchedEntry => x.due ≤ formed)
    let t := { s.afterBoundary with schedule := placed }
    let refused (st : Status) : Prop :=
      exec .schedAdd s = .next (s.afterBoundary.reply e (answer st
        (be 2 f.tag ++ be 6 0 ++ be 1 0 ++ be 1 s.schedule.length)))
    let accepted (u : State) (fired left : Nat) : Prop :=
      exec .schedAdd s = .next (u.reply e (answer .ok (be 2 f.tag ++ be 6 formed ++ be 1 fired ++ be 1 left)))
    ((∃ x ∈ s.schedule, x.tag = f.tag) → refused .duplicateTag)
    ∧ ((∀ x ∈ s.schedule, x.tag ≠ f.tag) → 32 ≤ s.schedule.length → refused .listFull)
    ∧ ((∀ x ∈ s.schedule, x.tag ≠ f.tag) → s.schedule.length < 32 →
        accepted t.duePass (decide (formed ≤ s.uptime)).toNat t.duePass.schedule.length
        ∧ ∀ x rest, placed = x :: rest → x.due ≤ s.uptime → t.duePass = (t.fire x rest).duePass)
    ∧ ((∀ x ∈ s.schedule, x.tag ≠ f.tag) → s.schedule.length < 32 → s.uptime < formed →
        (∀ x ∈ s.schedule, s.uptime < x.due) → accepted t 0 (s.schedule.length + 1))
    ∧ (s.schedule = [] → formed ≤ s.uptime → f.period = 0 → accepted (t.fire entry []) 1 0)
    ∧ (s.schedule = [] → formed ≤ s.uptime → 1 ≤ f.period → accepted (t.fire entry []) 1 1)

/-- SCHED_CANCEL (R118): the entry of the tag leaves the list and is reported; without one nothing changes; nothing but the list
changes, and no notice is posted. -/
def Obligations.SchedCancelRemoves : Prop :=
  ∀ (s : State) (e : ReqEntry) (tag : Nat), Dispatches s .schedCancel e → parseNumber e.payload = some tag →
    (∀ before x behind, s.schedule = before ++ x :: behind → x.tag = tag → (∀ y ∈ before, y.tag ≠ tag) →
      exec .schedCancel s = .next ({ s.afterBoundary with schedule := before ++ behind }.reply e (answer .ok
        (be 2 tag ++ be 1 x.chan.toNat ++ be 1 (SchedAction.code x.action) ++ be 6 x.due ++ be 4 x.period))))
    ∧ ((∀ x ∈ s.schedule, x.tag ≠ tag) →
      exec .schedCancel s = .next (s.afterBoundary.reply e (answer .noSuchTag (be 2 tag ++ List.replicate 12 0))))

/-- PROFILE_SAVE and RESTART (R127, R134): the refusals in their order; an accepted save captures the working configuration,
makes the target copy invalid and enters WRITING, and leaves the other copy, its record and the rest of the Profile Store as they
are; an accepted restart is pending on the fate of its reply. -/
def Obligations.SaveAndRestartBegin : Prop :=
  ∀ (s : State) (e : ReqEntry),
    (Dispatches s .profileSave e →
      (s.profile.saveState ≠ .idle → exec .profileSave s = .next (s.afterBoundary.reply e
        (answer .profileBusy (be 1 (SaveState.code s.profile.saveState) ++ List.replicate 5 0))))
      ∧ (s.profile.saveState = .idle → s.profile.restartPending ≠ none → exec .profileSave s = .next
          (s.afterBoundary.reply e (answer .busy (be 1 0 ++ List.replicate 5 0))))
      ∧ (s.profile.saveState = .idle → s.profile.restartPending = none →
        let target := if s.profile.current = some .a then CopyId.b else CopyId.a
        ∃ t, exec .profileSave s = .next (t.reply e (answer .started
            (be 1 1 ++ be 1 (copyCode? (some target))
              ++ be 4 (t.profile.newGeneration.getD Config.exhaustedGeneration.toNat))))
          ∧ OnlyChanges [.within, .profile] s t
          ∧ t.profile.saveState = .writing ∧ t.profile.target = some target ∧ t.profile.capture = some s.workingConfig
          ∧ t.profile.store target = none ∧ t.profile.record target = { valid := false, generation := 0 }
          ∧ t.profile.current = s.profile.current ∧ t.profile.unsaved = s.profile.unsaved
          ∧ t.profile.outcome = s.profile.outcome ∧ t.profile.source = s.profile.source
          ∧ t.profile.restartPending = none ∧ t.profile.writeFailed = false
          ∧ t.profile.resetLevel = s.profile.resetLevel ∧ t.profile.resetFilter = s.profile.resetFilter
          ∧ (∀ other, other ≠ target →
              t.profile.store other = s.profile.store other ∧ t.profile.record other = s.profile.record other)
          ∧ t.profile.newGeneration =
              (match s.profile.current with
               | none => some 1
               | some k =>
                 if (s.profile.record k).generation < 4294967295 then some ((s.profile.record k).generation + 1)
                 else none)))
    ∧ (Dispatches s .restart e →
      (s.profile.saveState ≠ .idle → exec .restart s = .next (s.afterBoundary.reply e (answer .profileBusy [])))
      ∧ (s.profile.saveState = .idle → s.profile.restartPending ≠ none →
          exec .restart s = .next (s.afterBoundary.reply e (answer .already [])))
      ∧ (s.profile.saveState = .idle → s.profile.restartPending = none → exec .restart s = .next
          ({ s.afterBoundary with profile := { s.profile with restartPending := some e.id } }.reply e
            { status := .ok, fields := [], awaiting := .restart })))

/-! The supply, the lines and the starts. -/

/-- The loss of the supply leaves the non-volatile copies, the lines and the queue of commands, and nothing of the channels, the
budget, the schedule, the request queue and the notices (R129; log 3). Its return starts every block from the current copy: each
channel enabled is OFF, or with auto-start QUEUED where its allowance fits, in class order and then channel-number order; nothing
is granted; the RESTARTED notice of cause POWER_ON is the first and only notice (R25, R51, R80, R96, R108, R120, R125, R126, R132,
R137, R156, R172). What is said of the queue of commands, of the model's counter and of the entry identities is the model's choice
(log 3, log 5, log 9). -/
def Obligations.SupplyLossAndReturn : Prop :=
  ∀ s : State,
    (∃ t, exec .powerLoss s = .next t ∧ t.powered = false ∧ t.profile.storeA = s.profile.storeA
      ∧ t.profile.storeB = s.profile.storeB ∧ t.pins = s.pins ∧ t.pending = s.pending ∧ t.draws = s.draws
      ∧ (∀ c, (t.chan c).gate = .off ∧ t.budget.records.get c = none) ∧ t.budget.queue = [] ∧ t.schedule = []
      ∧ t.link.queue = [] ∧ t.notices.queue = [] ∧ t.notices.attn = .released)
    ∧ (let p := s.profile.start
      let w := p.loaded
      let cfg (c : Chan) := w.channels.get c
      let joins (c : Chan) := (cfg c).enabled && (cfg c).autoStart && decide ((cfg c).allowance ≤ w.budget.limit)
      let queue := startQueue w .profile joins
      let generation := match p.current with
        | some k => (p.record k).generation
        | none => 0
      (∀ c, (cfg c).cls ≤ 3) →
      ∃ t, exec .powerOn s = .next t ∧ t.powered = true ∧ StartsAfresh w t ∧ t.pins = s.pins ∧ t.pending = s.pending
        ∧ t.draws = s.draws ∧ t.link.stats = ⟨0, 0, 0, 0, 0⟩ ∧ t.link.nextId = s.link.nextId
        ∧ (∀ c, t.chan c =
            { Channel.reset with
              cfg := cfg c
              state := if joins c then .queued else if (cfg c).enabled then .off else .disabled
              lastOff := if (cfg c).enabled = true ∧ (cfg c).autoStart = true ∧ w.budget.limit < (cfg c).allowance then .budget
                else .none
              joinNumber := ((queue.find? fun x => x.chan == c).map (·.joinNumber)).getD 0 })
        ∧ t.budget =
            { State.reset.budget with
              settings := w.budget, queue := queue, nextJoin := queue.length, shedLevel := s.pins.shed }
        ∧ t.profile =
            { storeA := s.profile.storeA, storeB := s.profile.storeB, recA := p.recA, recB := p.recB, current := p.current
              source := p.source, saveState := .idle, target := none, capture := none, newGeneration := none
              writeFailed := false, unsaved := p.current.isNone, outcome := ⟨.none, none, 0⟩, restartPending := none
              resetLevel := s.pins.reset, resetFilter := none }
        ∧ t.notices =
            (let body : NoticeBody := .restarted .powerOn p.source generation (Chan.all.filter joins) [] [] [] s.pins.shed
            if w.subscriptions.getLsbD 12 then
              { startNotices w with
                queue := [⟨0, .urgent, 0, none, body, 0, .unsent, false⟩], nextNseq := 1, attn := .asserted }
            else startNotices w))

/-- The three input lines (R42, R133, R143): a level different from the filtered one starts the filter timer of 1 ms or 2 ms, the
filtered level cancels it; the receive line going low starts the break timer of 20 ms, and high stops it. When a timer started now
expires is by log 4. -/
def Obligations.LinesStartTheirTimers : Prop :=
  ∀ s : State, s.powered = true →
    (∀ l, exec (.resetLineChange l) s = .next
      { s with
        pins := { s.pins with reset := l }
        profile := { s.profile with resetFilter :=
          if l = s.profile.resetLevel then none else some (s.profile.resetFilter.getD (s.deadline 1)) } })
    ∧ (∀ l, exec (.shedLineChange l) s = .next
      { s with
        pins := { s.pins with shed := l }
        budget := { s.budget with shedFilter :=
          if l = s.budget.shedLevel then none else some (s.budget.shedFilter.getD (s.deadline 2)) } })
    ∧ exec (.receiveLineChange s.pins.receive) s = .next s
    ∧ (s.pins.receive = .high → exec (.receiveLineChange .low) s = .next
      { s with
        pins := { s.pins with receive := .low }
        link := { s.link with breakTimer :=
          if s.link.breakWait then s.link.breakTimer else some (s.deadline 20) } })
    ∧ (s.pins.receive = .low → exec (.receiveLineChange .high) s = .next
      { s with
        pins := { s.pins with receive := .high }
        link := { s.link with breakTimer := none, breakWait := false } })

/-- The RESET filter and the signal of a RESTART (R133, R134): a change of the filtered level to ASSERTED is a controller restart
of cause RESET_LINE, a change to RELEASED only takes the level; the signal that names the pending RESTART is a controller
restart of cause RESTART_REQUEST, another only leaves. -/
def Obligations.RestartsBegin : Prop :=
  ∀ (s : State) (deadline : Nat) (fate : ReplyFate) (request : Nat), s.powered = true →
    let t := { s with profile := { s.profile with resetLevel := s.pins.reset, resetFilter := none } }
    let x : ReplySignal := { target := .restart, request := request, fate := fate }
    let u := { s.afterBoundary with link := { s.link with signals := s.link.signals.erase x } }
    (s.profile.resetFilter = some deadline → deadline ≤ s.uptime → s.profile.resetLevel = .released →
      s.pins.reset = .asserted → exec .resetFilterExpiry s = .next (t.controllerRestart .resetLine))
    ∧ (s.profile.resetFilter = some deadline → deadline ≤ s.uptime →
        ¬(s.profile.resetLevel = .released ∧ s.pins.reset = .asserted) → exec .resetFilterExpiry s = .next t)
    ∧ (x ∈ s.link.signals → s.profile.restartPending = some request →
        exec (.restartReplySignal fate request) s = .next (u.controllerRestart .restartRequest))
    ∧ (x ∈ s.link.signals → s.profile.restartPending ≠ some request →
        exec (.restartReplySignal fate request) s = .next u)

/-- A controller restart (the table of R135, R52, R81, R96, R108, R120, R136, R137, R156, R172): what every channel and every block
becomes. A channel ON and enabled is held ON with its record, unless the restart sheds it: exactly the held records that sheds in
rank come to with committed above the loaded limit, with reason SHED_BUDGET, and then, with the SHED level ASSERTED, those of class
1 to 3 that are left, with reason SHED_LINE. The RESTARTED notice comes first and the SHED notices follow. What is in transit is
discarded (log 23), and the join and claim numbers are kept (log 24). A filter timer runs on for the milliseconds left to its
expiry, at most its length, which is the model's choice (log 38). -/
def Obligations.ControllerRestartTable : Prop :=
  ∀ (s : State) (cause : RestartCause),
    let p := s.profile.start
    let w := p.loaded
    let cfg (c : Chan) := w.channels.get c
    let held (c : Chan) := (cfg c).enabled && (s.chan c).state == .on
    let rejoins (c : Chan) := (cfg c).enabled
      && ((s.chan c).state == .starting || (s.chan c).state == .cycleOff || (s.chan c).state == .queued)
    let fits (c : Chan) := decide ((cfg c).allowance ≤ w.budget.limit)
    let queue := startQueue w .restart fun c => rejoins c && fits c
    let generation := match p.current with
      | some k => (p.record k).generation
      | none => 0
    let t := s.controllerRestart cause
    (∀ c, (cfg c).cls ≤ 3) →
    ∃ j order u line v,
      (∀ c,
        let k := s.chan c
        j.chan c =
          { k with
            cfg := cfg c
            state :=
              if (cfg c).enabled = false then .disabled
              else if k.state = .on then .on
              else if k.state = .latched then .latched
              else if rejoins c && fits c then .queued
              else .off
            gate := if held c then .full else .off
            retryCount := 0
            grantStamp := 0
            onSince := 0
            cyclePending := none
            cycleReturnWaiting := false
            timer := if held c then .retryWindow (1000 * (cfg c).retryWindow) else .none
            lastOff :=
              if rejoins c && !fits c then .budget
              else if k.state = .starting ∨ k.state = .cycleOff ∨ k.state = .queued ∨ k.state = .cooldown
                ∨ (k.state = .on ∧ (cfg c).enabled = false) then .restart
              else k.lastOff
            comparator :=
              if held c then
                { armed := true, threshold := (cfg c).tripCurrent, filter := (cfg c).tripFilter, filterRunning := false
                  armingNumber := if k.comparator.armingNumber < 255 then k.comparator.armingNumber + 1 else 0 }
              else { k.comparator with armed := false, filterRunning := false }
            latest := Sample.zero
            trips := []
            joinNumber := ((queue.find? fun x => x.chan == c).map (·.joinNumber)).getD k.joinNumber })
      ∧ j.budget =
          { State.reset.budget with
            settings := w.budget
            records := PerChan.ofFn fun c =>
              if held c then some ⟨(cfg c).allowance, (cfg c).cls, 0, .on, false, false, false⟩ else none
            queue := queue
            nextJoin := queue.length
            shedLevel := s.budget.shedLevel
            shedFilter := s.budget.shedFilter.map fun e => min 2 (e - s.uptime)
            scanDue := !queue.isEmpty }
      ∧ StartsAfresh w j ∧ j.link.stats = s.link.stats ∧ j.link.nextId = s.link.nextId
      ∧ j.profile = { p with resetFilter := s.profile.resetFilter.map fun e => min 1 (e - s.uptime) }
      ∧ j.notices = startNotices w
      ∧ j.powered = s.powered ∧ j.pins = s.pins ∧ j.draws = s.draws ∧ j.pending = s.pending
      ∧ j.budget.InRank j.budget.Excess order ∧ ShedsDone .budget j u order
      ∧ u.budget.InRank (fun c => s.budget.shedLevel = .asserted ∧ u.budget.Sheddable c) line ∧ ShedsDone .line u v line
      ∧ t = ((v.post none
              (.restarted cause p.source generation [] (Chan.all.filter fun c => (v.chan c).state == .on)
                (Chan.all.filter fun c => rejoins c && fits c) (Chan.all.filter fun c => order.contains c || line.contains c)
                s.budget.shedLevel)).postAll
            (shedNotices .budget j u j.budget.committed order ++ shedNotices .line u v u.budget.committed line)).settle
      ∧ StartsAfresh w t ∧ t.profile = j.profile ∧ t.budget = { v.budget with scanDue := false }
      ∧ (∀ c, c ∉ order → c ∉ line → t.chan c = j.chan c ∧ t.budget.records.get c = j.budget.records.get c)
      ∧ (∀ c, c ∈ order ∨ c ∈ line →
          held c = true ∧ t.budget.records.get c = none ∧ (t.chan c).gate = .off
          ∧ (t.chan c).lastOff = (if c ∈ order then .shedBudget else .shedLine)
          ∧ (t.chan c).state = (if (cfg c).afterShed = .requeue ∧ fits c = true then .queued else .off))
      ∧ (((Chan.all.filter held).map fun c => (cfg c).allowance).sum ≤ w.budget.limit → order = [])
      ∧ (s.budget.shedLevel = .released → line = [])
      ∧ (w.subscriptions.getLsbD 12 = true → ∃ rest, t.notices.queue = ⟨0, .urgent, 0, none,
          .restarted cause p.source generation [] (Chan.all.filter fun c => (v.chan c).state == .on)
            (Chan.all.filter fun c => rejoins c && fits c) (Chan.all.filter fun c => order.contains c || line.contains c)
            s.budget.shedLevel, 0, .unsent, false⟩ :: rest)
      ∧ t.notices.sessionOpen = false ∧ t.budget.committed ≤ w.budget.limit ∧ t.budget.busGood = false

/-! The Budget Manager's own events. -/

/-- The SHED filter (R42 to R44): at the change to ASSERTED every held record of class 1 to 3 is shed in shed rank and every other
channel and record stays, and the SHED notices in rank order are followed by the SHED_LINE notice with the set of channels shed; at
the change to RELEASED a SHED_LINE notice is posted and a scan is due. The overload hold timer (R47): it starts again, with a
candidate or without; the OVERLOAD notice is posted; the first ON record of class 1 to 3 in shed rank, where there is one, is shed
with cause OVERLOAD and its SHED notice follows. The expiry of the timer started again is by log 4. -/
def Obligations.ShedEvents : Prop :=
  (∀ (s : State) (deadline : Nat), s.powered = true → s.budget.shedFilter = some deadline → deadline ≤ s.uptime →
      (s.budget.shedLevel = .released → s.pins.shed = .asserted →
        let a := { s with budget := { s.budget with shedLevel := .asserted, shedFilter := none } }
        ∃ order u,
          a.budget.InRank a.budget.Sheddable order ∧ ShedsDone .line a u order
          ∧ exec .shedFilterExpiry s = .next
              (((u.postAll (shedNotices .line a u s.budget.committed order)).post none
                (.shedLine .asserted (Chan.all.filter fun c => order.contains c))).settle)
          ∧ ∀ c,
            ((∀ r, s.budget.records.get c = some r → r.cls = 0) →
              u.chan c = s.chan c ∧ u.budget.records.get c = s.budget.records.get c)
            ∧ (∀ r, s.budget.records.get c = some r → 1 ≤ r.cls →
                u.budget.records.get c = none ∧ (u.chan c).gate = .off ∧ (u.chan c).lastOff = .shedLine
                ∧ (u.chan c).state =
                    if (s.chan c).cfg.afterShed = .requeue ∧ (s.chan c).cfg.allowance ≤ s.budget.settings.limit then .queued
                    else .off))
      ∧ (s.budget.shedLevel = .asserted → s.pins.shed = .released →
        exec .shedFilterExpiry s = .next
          ({ s with
              budget := { s.budget with shedLevel := .released, shedFilter := none, scanDue := true }
              notices := s.notices.post s.uptime none (.shedLine .released []) }.settle))
      ∧ (s.budget.shedLevel = s.pins.shed →
        exec .shedFilterExpiry s = .next { s with budget := { s.budget with shedFilter := none } }))
  ∧ (∀ (s : State) (deadline : Nat), s.powered = true → s.budget.holdTimer = some deadline → deadline ≤ s.uptime →
      let b := s.budget
      let a := { s with budget := { b with holdTimer := some (s.deadline b.settings.overloadHold) } }
      ((∀ c r, b.records.get c = some r → ¬(1 ≤ r.cls ∧ r.phase = .on)) →
        exec .overloadHoldExpiry s = .next
          ({ a with notices := s.notices.post s.uptime none (.overload b.overAverage b.settings.limit true) }.settle))
      ∧ (∀ c r, b.firstInRank (fun x => decide (1 ≤ x.cls) && decide (x.phase = .on)) = some (c, r) →
        ∃ u, ShedsDone .overload a u [c]
          ∧ u.budget.holdTimer = some (s.deadline b.settings.overloadHold)
          ∧ exec .overloadHoldExpiry s = .next
              ({ u with notices :=
                  ((s.notices.post s.uptime (some c) (.overload b.overAverage b.settings.limit false)).post s.uptime (some c)
                    (.shed .overload (s.chan c).state (u.chan c).state r.cls r.amount (b.committed - r.amount))) }.settle)))

/-! Rounds. -/

/-- The completion of a round (R69 to R76): readings stop at full scale, power is the exact product divided by 1,000, the total
is the sum of the eight; every consumer has the round delivered; each reporting block takes its sample and, complete, replaces
its result. -/
def Obligations.RoundCompletes : Prop :=
  ∀ (s : State) (r : Readings) (stamp : Nat), s.powered = true → s.sampler.round = some stamp →
    let amps (c : Chan) := min (r.chans.get c).current 32767
    let volts (c : Chan) := min (r.chans.get c).voltage 65535
    let sample (c : Chan) : Sample :=
      { current := amps c, overFlag := decide (32767 ≤ (r.chans.get c).current), voltage := volts c
        power := amps c * volts c / 1000, bus := min r.bus 65535, stamp := stamp }
    ∃ t, exec (.roundComplete r) s = .next t
      ∧ OnlyChanges [.within, .sampler, .deliveries] s t
      ∧ t.sampler.round = none ∧ t.sampler.latestValid = true
      ∧ t.sampler.latest.bus =
          { voltage := min r.bus 65535, total := (Chan.all.map fun c => (sample c).power).sum
            totalOver := decide (∃ c ∈ Chan.all, 32767 ≤ (r.chans.get c).current), stamp := stamp }
      ∧ t.deliveries.toBudget = s.deliveries.toBudget ++ [t.sampler.latest.bus]
      ∧ t.deliveries.toWatch = s.deliveries.toWatch ++ [t.sampler.latest]
      ∧ t.deliveries.toMeter = s.deliveries.toMeter ++ [t.sampler.latest]
      ∧ ∀ c,
        let b := s.sampler.blocks.get c
        t.sampler.latest.samples.get c = sample c
        ∧ t.deliveries.toChannels.get c = s.deliveries.toChannels.get c ++ [sample c]
        ∧ (b.count + 1 < b.window →
            t.sampler.results.get c = s.sampler.results.get c
            ∧ t.sampler.blocks.get c =
                { window := b.window, count := b.count + 1, currentSum := b.currentSum + (sample c).current
                  voltageSum := b.voltageSum + (sample c).voltage, powerSum := b.powerSum + (sample c).power
                  overFlag := b.overFlag || (sample c).overFlag })
        ∧ (b.window ≤ b.count + 1 →
            t.sampler.blocks.get c = ⟨b.window, 0, 0, 0, 0, false⟩
            ∧ t.sampler.results.get c =
                { valid := true, window := b.window, current := (b.currentSum + (sample c).current) / b.window
                  voltage := (b.voltageSum + (sample c).voltage) / b.window
                  power := (b.powerSum + (sample c).power) / b.window, overFlag := b.overFlag || (sample c).overFlag, stamp := stamp })

/-- The power of a channel sample (R71): current times voltage divided by 1,000, the remainder discarded; an over-range sample
takes the full-scale current, so that its power is a lower bound; the greatest power is 2,147,385 mW. -/
def Obligations.SamplePowerIsExact : Prop :=
  ∀ (s : State) (r : Readings) (stamp : Nat), s.powered = true → s.sampler.round = some stamp →
    ∃ t, exec (.roundComplete r) s = .next t ∧ ∀ c,
      let shown := r.chans.get c
      let x := t.sampler.latest.samples.get c
      x.power = x.current * x.voltage / 1000
      ∧ (shown.current < 32767 → x.current = shown.current)
      ∧ (32767 ≤ shown.current →
          x.power = 32767 * x.voltage / 1000 ∧ x.power ≤ shown.current * x.voltage / 1000)
      ∧ x.power ≤ 2147385
      ∧ (32767 ≤ shown.current → 65535 ≤ shown.voltage → x.power = 2147385)

/-- A sample arrival at a channel (R14, R15, R74): in STARTING with the good level met the channel enters ON; else only the latest
arrival changes. A bus sample arrival at the Budget Manager (R29, R33, R45, R46): bus good is tested; the sixteenth round of a
block gives its average, which starts or stops the hold timer. A delivery comes after the millisecond boundary by the model's
reading of R1 (log 4), so a timer of d ms expires at uptime + d + 1; that the good-level test takes the round's own bus voltage
whatever the bus-good flag still reads is the model's choice (log 32). -/
def Obligations.SamplesTaken : Prop :=
  (∀ (s : State) (c : Chan) (x : Sample) (rest : List Sample), s.powered = true →
      s.deliveries.toChannels.get c = x :: rest →
      let k := s.chan c
      let t := { s.afterBoundary with deliveries := { s.deliveries with toChannels := s.deliveries.toChannels.set c rest } }
      let up := k.state = .starting ∧ k.cfg.goodLevel * x.bus ≤ x.voltage * 100 ∧ s.budget.settings.busMinimum ≤ x.bus
      (¬up → exec (.roundDeliveryChannel c) s = .next { t with chans := s.chans.set c { k with latest := x } }.settle)
      ∧ (up →
        ∃ u, exec (.roundDeliveryChannel c) s = .next u.settle
          ∧ OnlyChanges [.chan c, .budget, .notices] t u
          ∧ u.chan c =
              { k with
                latest := x
                state := .on
                gate := .full
                comparator :=
                  { armed := true, threshold := k.cfg.tripCurrent, filter := k.cfg.tripFilter, filterRunning := false
                    armingNumber := if k.comparator.armingNumber < 255 then k.comparator.armingNumber + 1 else 0 }
                onSince := s.uptime
                cyclePending := none
                cycleReturnWaiting := false
                timer := .retryWindow (s.uptime + 1000 * k.cfg.retryWindow + 1) }
          ∧ u.budget =
              { s.budget with
                records := s.budget.records.set c ((s.budget.records.get c).map fun r : Reservation => { r with phase := .on, slot := false })
                scanDue := true }
          ∧ u.notices = s.notices.post s.uptime (some c) (.channelState .starting .on .up k.lastOff)))
  ∧ (∀ (s : State) (x : BusSample) (rest : List BusSample), s.powered = true → s.deliveries.toBudget = x :: rest →
      let b := s.budget
      let good := decide (b.settings.busMinimum ≤ x.voltage)
      let average := (b.overSum + x.total) / 16
      let tested := { b with lastBus := some x.voltage, busGood := good, scanDue := b.scanDue || (good && !b.busGood) }
      let t := { s.afterBoundary with deliveries := { s.deliveries with toBudget := rest } }
      (b.overCount + 1 < 16 → exec .roundDeliveryBudget s = .next
        { t with budget := { tested with overSum := b.overSum + x.total, overCount := b.overCount + 1 } }.settle)
      ∧ (16 ≤ b.overCount + 1 → exec .roundDeliveryBudget s = .next
        { t with
          budget :=
            { tested with
              overSum := 0
              overCount := 0
              overAverage := average
              holdTimer :=
                if b.settings.limit * 1000 < average then some (b.holdTimer.getD (s.uptime + b.settings.overloadHold + 1))
                else none } }.settle))

/-- A round at the Watch Unit (R86 to R91): the records 0 to 15 are taken one after another in ascending number; a free one
takes no part; a block short of its window only adds its value; a completed block is judged: a rise is made of the record with its
closed block (for SWITCH_OFF and LATCH see `Obligations.WatchRiseLatches`), and with action NOTIFY a rise or a LIVE fall posts its
notice and touches no channel. -/
def Obligations.WatchesTakeRound : Prop :=
  (∀ (s : State) (r : Round) (rest : List Round), s.powered = true → s.deliveries.toWatch = r :: rest →
    exec .roundDeliveryWatch s = .next
      (((List.range 16).foldl (fun t n => State.watchRecord t r n)
        { s.afterBoundary with deliveries := { s.deliveries with toWatch := rest } }).settle))
  ∧ ∀ (s : State) (r : Round) (n : Nat),
    (s.watchAt n = none → s.watchRecord r n = s)
    ∧ ∀ w : Watch, s.watchAt n = some w →
      let sum := w.sum + (watchValue w.cfg r).1
      let overFlag := w.overFlag || (watchValue w.cfg r).2
      let average := sum / w.cfg.window
      let closed : Watch :=
        { w with count := 0, sum := 0, overFlag := false, last := ⟨true, average, overFlag, r.bus.stamp⟩ }
      let high := overFlag = true ∨ w.cfg.upper < average
      let low := overFlag = false ∧ average ≤ w.cfg.upper ∧ average < w.cfg.lower
      (w.count + 1 < w.cfg.window →
        s.watchRecord r n = { s with watches := s.watches.set n (some { w with count := w.count + 1, sum := sum, overFlag := overFlag }) })
      ∧ (w.cfg.window ≤ w.count + 1 → w.level = .low → high → s.watchRecord r n = s.watchRise n closed)
      ∧ (w.cfg.window ≤ w.count + 1 → w.level = .low → high → w.cfg.action = .notify →
        let rises := min 65535 (w.rises + 1)
        s.watchRecord r n =
          { s with
            watches := s.watches.set n (some { closed with level := .high, raised := true, rises := rises })
            notices := s.notices.post s.uptime none
              (.watch n .rise w.cfg average overFlag r.bus.stamp none true rises) })
      ∧ (w.cfg.window ≤ w.count + 1 → w.level = .high → low → w.cfg.mode = .latched →
        s.watchRecord r n = { s with watches := s.watches.set n (some { closed with level := .low }) })
      ∧ (w.cfg.window ≤ w.count + 1 → w.level = .high → low → w.cfg.mode = .live →
        s.watchRecord r n =
          { s with
            watches := s.watches.set n (some { closed with level := .low, raised := false })
            notices := s.notices.post s.uptime (WatchAction.target? w.cfg.action)
              (.watch n .fall w.cfg average overFlag r.bus.stamp none false w.rises) })
      ∧ (w.cfg.window ≤ w.count + 1 → (w.level = .high ∧ ¬low) ∨ (w.level = .low ∧ ¬high) →
        s.watchRecord r n = { s with watches := s.watches.set n (some closed) })

/-- A rise with a target (R64, R88, R89): the record becomes HIGH and raised and its rise count rises by 1, up to 65,535, whatever
the channel answers. LATCH: a target neither LATCHED nor DISABLED is latched, gives up all it holds, and its LATCHED notice goes
before the WATCH notice. SWITCH_OFF: a target in QUEUED, STARTING, ON, CYCLE_OFF or COOLDOWN becomes OFF with reason WATCH and gives
up all it holds. Else the target stays as it is and its refusal is the status of the WATCH notice. -/
def Obligations.WatchRiseLatches : Prop :=
  ∀ (s : State) (n : Nat) (w : Watch) (c : Chan), WatchAction.target? w.cfg.action = some c →
    let k := s.chan c
    let t := s.watchRise n w
    let rises := min 65535 (w.rises + 1)
    let noticed (u : Notices) (status : Status) : Notices :=
      u.post s.uptime (some c)
        (.watch n .rise w.cfg w.last.value w.last.overFlag w.last.stamp (some status) true rises)
    let ended (state : ChState) : Channel :=
      { k with
        state := state
        gate := .off
        comparator := { k.comparator with armed := false, filterRunning := false }
        timer := .none
        cyclePending := none
        cycleReturnWaiting := false
        lastOff := .watch }
    let refused (status : Status) : Prop :=
      t.chan c = k ∧ t.budget = s.budget.runScan s.uptime ∧ t.notices = noticed s.notices status
    OnlyChanges [.chan c, .budget, .notices, .watches] s t
    ∧ t.watches = s.watches.set n (some { w with level := .high, raised := true, rises := rises })
    ∧ (w.cfg.action = .latch c → k.state ≠ .latched → k.state ≠ .disabled →
        t.chan c = ended .latched ∧ t.budget = (s.budget.drop c).runScan s.uptime
        ∧ t.notices = noticed (s.notices.post s.uptime (some c)
            (.latched .watch none (some n) k.state k.retryCount k.tripTotal)) .ok)
    ∧ (w.cfg.action = .switchOff c → k.state ≠ .off → k.state ≠ .latched → k.state ≠ .disabled →
        t.chan c = ended .off ∧ t.budget = (s.budget.drop c).runScan s.uptime ∧ t.notices = noticed s.notices .ok)
    ∧ (w.cfg.action = .switchOff c → k.state = .off → refused .already)
    ∧ (k.state = .latched → refused .latched)
    ∧ (k.state = .disabled → refused .notConfigured)

/-- A round at the Meter (R99, R100, R102, R104, R105): each accumulator that is not full takes the power, wraps into rollover and
freezes at 16,777,215 rounds; peaks and the bus minimum move only on a strictly greater or lesser value; one notice for each
freeze. -/
def Obligations.MeterTakesRound : Prop :=
  ∀ (s : State) (r : Round) (rest : List Round), s.powered = true → s.deliveries.toMeter = r :: rest →
    ∃ m : Meter,
      exec .roundDeliveryMeter s = .next
        (({ s.afterBoundary with deliveries := { s.deliveries with toMeter := rest }, meter := m }.postAll
          ((Chan.all.filter fun c => (m.energy.get c).full && !(s.meter.energy.get c).full).map fun c =>
            let a := m.energy.get c
            (some c, .energyFull a.energy a.rollover a.count a.overFlag a.periodStart r.bus.stamp))).settle)
      ∧ m.snapshot = some r.bus.stamp
      ∧ m.bus = (if r.bus.voltage < s.meter.bus.voltage then
          { s.meter.bus with voltage := r.bus.voltage, stamp := r.bus.stamp } else s.meter.bus)
      ∧ ∀ c,
        let a := s.meter.energy.get c
        let x := r.samples.get c
        let p := s.meter.peaks.get c
        let total := a.energy + (a.residue + x.power) / 1000
        (a.full = true → m.energy.get c = a)
        ∧ (a.full = false → m.energy.get c =
            { energy := if total ≤ 4294967295 then total else total - 4294967296
              rollover := if total ≤ 4294967295 then a.rollover else min 65535 (a.rollover + 1)
              residue := (a.residue + x.power) % 1000
              count := a.count + 1
              full := decide (16777215 ≤ a.count + 1)
              overFlag := a.overFlag || x.overFlag
              periodStart := a.periodStart })
        ∧ m.peaks.get c =
            (let q := if p.current < x.current then
                { p with current := x.current, currentStamp := x.stamp, currentOver := x.overFlag } else p
             if p.power < x.power then { q with power := x.power, powerStamp := x.stamp, powerOver := x.overFlag } else q)

/-! Protection, timers, grants and signals. -/

/-- The comparator (R54, R55): armed, its filter runs exactly while the current is above the threshold, and operating it sends one
trip event with its arming number and disarms; not armed, neither has an effect on it. -/
def Obligations.ComparatorActs : Prop :=
  ∀ (s : State) (c : Chan) (current : Nat), s.powered = true →
    let k := s.chan c
    let x := k.comparator
    (x.armed = true → exec (.senseCurrentChange c current) s = .next
      { s.afterBoundary with
        chans := s.chans.set c { k with comparator := { x with filterRunning := decide (x.threshold < current) } } })
    ∧ (x.armed = false → ∃ t, exec (.senseCurrentChange c current) s = .next t ∧ OnlyChanges [.within] s t)
    ∧ (x.armed = true → x.filterRunning = true → exec (.comparatorOperate c) s = .next
      { s.afterBoundary with
        chans := s.chans.set c
          { k with comparator := { x with armed := false, filterRunning := false }, trips := k.trips ++ [x.armingNumber] } })
    ∧ (¬(x.armed = true ∧ x.filterRunning = true) → exec (.comparatorOperate c) s = .next s)

/-- A trip taken in ON with the number of the present arming, and a start timer that expires in STARTING (R56, R57, R59, R62, R66):
the channel gives up its power and its reservation and enters COOLDOWN, or LATCHED with its retries used up, with its notices;
a trip event that finds another state or an earlier arming only leaves. -/
def Obligations.FaultsHandled : Prop :=
  ∀ (s : State) (c : Chan), s.powered = true →
    let k := s.chan c
    let retries := k.retryCount < k.cfg.retryLimit
    let after (reason : OffReason) (trips : List Nat) : Channel :=
      { k with
        state := if retries then .cooldown else .latched
        gate := .off
        comparator := { k.comparator with armed := false, filterRunning := false }
        timer := if retries then .cooldown (s.deadline k.cfg.cooldown) else .none
        cyclePending := none
        cycleReturnWaiting := false
        lastOff := reason
        tripTotal := min 65535 (k.tripTotal + 1)
        retryCount := if retries then k.retryCount + 1 else k.retryCount
        trips := trips }
    let latchedNotice (fault : FaultKind) (u : Notices) (x : Channel) : Notices :=
      if retries then u
      else u.post s.uptime (some c) (.latched .retriesExhausted (some fault) none k.state x.retryCount x.tripTotal)
    (∀ arming, arming ∈ k.trips → k.state = .on → k.comparator.armingNumber = arming →
      let x := after .trip (k.trips.erase arming)
      ∃ u, exec (.tripEvent c arming) s = .next u.settle
        ∧ OnlyChanges [.chan c, .budget, .notices] s u
        ∧ u.chan c = x ∧ u.budget = s.budget.drop c
        ∧ u.notices = latchedNotice .trip (s.notices.post s.uptime (some c)
            (.trip k.latest.current k.latest.overFlag x.retryCount x.state x.tripTotal)) x)
    ∧ (∀ arming, arming ∈ k.trips → ¬(k.state = .on ∧ k.comparator.armingNumber = arming) →
      exec (.tripEvent c arming) s = .next { s with chans := s.chans.set c { k with trips := k.trips.erase arming } })
    ∧ (∀ deadline, k.state = .starting → k.timer = .start deadline → deadline ≤ s.uptime →
      let x := after .startFail k.trips
      ∃ u, exec (.startTimerExpiry c) s = .next u.settle
        ∧ OnlyChanges [.chan c, .budget, .notices] s u
        ∧ u.chan c = x ∧ u.budget = s.budget.drop c
        ∧ u.notices = latchedNotice .startFail (s.notices.post s.uptime (some c)
            (.startFail k.latest.current k.latest.voltage k.latest.bus x.retryCount x.state x.tripTotal)) x)

/-- The retry window, the cycle timer and the cooldown (R20, R38, R61, R63): the retry count returns to 0; a cycle-return claim is
placed by the expiry of its timer and, for equal expiries, by channel number, the reservation being kept with its claim WAITING; the
channel joins again at the tail of its class with origin RETRY, or is OFF with reason BUDGET. -/
def Obligations.ChannelTimersExpire : Prop :=
  ∀ (s : State) (c : Chan) (deadline : Nat), s.powered = true → deadline ≤ s.uptime →
    let k := s.chan c
    (k.state = .on → k.timer = .retryWindow deadline → exec (.retryWindowExpiry c) s = .next
      { s with chans := s.chans.set c { k with retryCount := 0, timer := .none } })
    ∧ (k.state = .cycleOff → k.timer = .cycle deadline →
      ∃ u, exec (.cycleTimerExpiry c) s = .next u.settle
        ∧ OnlyChanges [.chan c, .budget] s u
        ∧ u.chan c = { k with cycleReturnWaiting := true, timer := .none, claimNumber := s.budget.nextClaim }
        ∧ ∃ before behind : List Claim, s.budget.claims = before ++ behind
          ∧ (∀ x ∈ before, x.expiry < deadline ∨ (x.expiry = deadline ∧ x.chan.toNat ≤ c.toNat))
          ∧ (∀ x rest, behind = x :: rest → deadline < x.expiry ∨ (deadline = x.expiry ∧ c.toNat < x.chan.toNat))
          ∧ u.budget =
              { s.budget with
                records := s.budget.records.set c
                  ((s.budget.records.get c).map fun r : Reservation => { r with claimWaiting := true })
                claims := before ++ { chan := c, expiry := deadline, number := s.budget.nextClaim } :: behind
                nextClaim := if s.budget.nextClaim < 65535 then s.budget.nextClaim + 1 else 0
                scanDue := true })
    ∧ (k.state = .cooldown → k.timer = .cooldown deadline → k.cfg.allowance ≤ s.budget.settings.limit →
      ∃ u, exec (.cooldownExpiry c) s = .next u.settle
        ∧ OnlyChanges [.chan c, .budget, .notices] s u
        ∧ u.chan c = { k with timer := .none, state := .queued, joinNumber := s.budget.nextJoin }
        ∧ u.budget = s.budget.queuedAtTail s.uptime c k.cfg .retry
        ∧ u.notices = s.notices.post s.uptime (some c) (.channelState .cooldown .queued .retry k.lastOff))
    ∧ (k.state = .cooldown → k.timer = .cooldown deadline → s.budget.settings.limit < k.cfg.allowance →
      exec (.cooldownExpiry c) s = .next
        ({ s with
            chans := s.chans.set c { k with timer := .none, state := .off, lastOff := .budget }
            notices := s.notices.post s.uptime (some c) (.channelState .cooldown .off .budget .budget) }.settle))

/-- A grant that names the channel's present entry or claim moves it to STARTING (R13, R36); one that names another only leaves. -/
def Obligations.GrantsTaken : Prop :=
  ∀ (s : State) (c : Chan) (number : Nat), s.powered = true →
    let k := s.chan c
    let without (g : Grant) : State := { s with budget := { s.budget with grants := s.budget.grants.erase g } }
    let starts (g : Grant) (cause : ChangeCause) : State :=
      { without g with
        chans := s.chans.set c
          { k with
            state := .starting
            gate := .regulating
            grantStamp := s.uptime
            cycleReturnWaiting := false
            timer := .start (s.deadline k.cfg.startTime) }
        budget :=
          { s.budget with
            grants := s.budget.grants.erase g
            records := s.budget.records.set c ((s.budget.records.get c).map fun r : Reservation => { r with grantTaken := true }) }
        notices := s.notices.post s.uptime (some c) (.channelState k.state .starting cause k.lastOff) }
    let inTransit := ∃ r, s.budget.records.get c = some r ∧ r.phase = .starting ∧ r.grantTaken = false
    (Grant.queue c number ∈ s.budget.grants → k.state = .queued → k.joinNumber = number → inTransit →
      exec (.queueGrant c number) s = .next (starts (.queue c number) .grant).settle)
    ∧ (Grant.queue c number ∈ s.budget.grants → ¬(k.state = .queued ∧ k.joinNumber = number ∧ inTransit) →
      exec (.queueGrant c number) s = .next (without (.queue c number)))
    ∧ (Grant.cycleReturn c number ∈ s.budget.grants → k.state = .cycleOff → k.cycleReturnWaiting = true →
        k.claimNumber = number → inTransit →
      exec (.cycleReturnGrant c number) s = .next (starts (.cycleReturn c number) .cycleReturn).settle)
    ∧ (Grant.cycleReturn c number ∈ s.budget.grants →
        ¬(k.state = .cycleOff ∧ k.cycleReturnWaiting = true ∧ k.claimNumber = number ∧ inTransit) →
      exec (.cycleReturnGrant c number) s = .next (without (.cycleReturn c number)))

/-- The signal for the reply to a CHANNEL_CYCLE (R17, R18): for the request that set cycle pending, in ON, sent or discarded, the
channel enters CYCLE_OFF and keeps its reservation; else the signal only leaves. That either signal is taken after the millisecond
boundary, so that the cycle timer expires at uptime + d + 1, is the model's (log 4, log 31). -/
def Obligations.CycleSignalsTaken : Prop :=
  ∀ (s : State) (c : Chan) (request : Nat) (fate : ReplyFate), s.powered = true →
    let k := s.chan c
    let x : ReplySignal := { target := .cycle c, request := request, fate := fate }
    let i : Instr := match fate with | .sent => .replySentCycle c request | .discarded => .replyDiscardedCycle c request
    let t := { s.afterBoundary with link := { s.link with signals := s.link.signals.erase x } }
    x ∈ s.link.signals →
    (k.state = .on → k.cyclePending = some request →
      exec i s = .next
        ({ t with
            chans := s.chans.set c
              { k with
                state := .cycleOff
                gate := .off
                comparator := { k.comparator with armed := false, filterRunning := false }
                cyclePending := none
                timer := .cycle (s.uptime + k.cfg.cycleTime + 1) }
            budget :=
              { s.budget with
                records := s.budget.records.set c ((s.budget.records.get c).map fun r : Reservation =>
                  { r with phase := .cycleOff, slot := false, claimWaiting := false }) }
            notices := s.notices.post s.uptime (some c) (.channelState .on .cycleOff .cycleBegin k.lastOff) }.settle))
    ∧ (¬(k.state = .on ∧ k.cyclePending = some request) → exec i s = .next t)

/-! The schedule, the profile. -/

/-- The due pass (R112 to R115): nothing due fires nothing; while the head is due it fires, one entry after another; after a pass
over a list in order no entry is due. A firing makes its action's request to the channel with origin SCHEDULE, by the tables of R8,
R9 and R10, and runs the scan; a one-shot entry leaves the list, a periodic one is re-armed by the least number of periods past the
uptime; the SCHEDULE_FIRED notice carries the status, the state after, the new due and the missed count of before. -/
def Obligations.DuePassFires : Prop :=
  ∀ s : State,
    (s.powered = true → exec .duePass s = .next s.duePass.settle)
    ∧ ((∀ x ∈ s.schedule, s.uptime < x.due) → s.duePass = s)
    ∧ (s.schedule.Pairwise (fun x y => x.due ≤ y.due) → ∀ x ∈ s.duePass.schedule, s.uptime < x.due)
    ∧ ∀ e rest, s.schedule = e :: rest → e.due ≤ s.uptime →
      let c := e.chan
      let k := s.chan c
      let p := 1000 * e.period
      let t := s.fire e rest
      s.duePass = t.duePass
      ∧ ((∀ x ∈ rest, s.uptime < x.due) → s.duePass = t)
      ∧ OnlyChanges [.chan c, .budget, .schedule, .notices] s t
      ∧ ∃ next : Option Nat,
        (e.period = 0 → next = none ∧ t.schedule = rest)
        ∧ (1 ≤ e.period →
            ∃ n, 1 ≤ n ∧ s.uptime < e.due + n * p ∧ e.due + (n - 1) * p ≤ s.uptime ∧ next = some (e.due + n * p)
              ∧ t.schedule =
                  placeEntry { e with due := e.due + n * p, insertion := s.uptime, missed := min 255 (n - 1) } rest)
        ∧ (let outcome (status : Status) (after : Channel) (b : Budget) : Prop :=
            t.chan c = after ∧ t.budget = b.runScan s.uptime
              ∧ t.notices = s.notices.post s.uptime (some c)
                  (.scheduleFired e.tag e.action e.due status after.state next e.missed)
          let refused (status : Status) : Prop := outcome status k s.budget
          (e.action = .on →
            (k.state = .off → k.cfg.allowance ≤ s.budget.settings.limit →
              outcome .ok { k with state := .queued, joinNumber := s.budget.nextJoin }
                (s.budget.queuedAtTail s.uptime c k.cfg .schedule))
            ∧ (k.state = .off → s.budget.settings.limit < k.cfg.allowance → refused .tooLarge)
            ∧ (k.state = .queued ∨ k.state = .starting → refused .already)
            ∧ (k.state = .on → k.cyclePending = none → refused .already)
            ∧ (k.state = .on → k.cyclePending ≠ none → refused .busy)
            ∧ (k.state = .cycleOff → refused .busy)
            ∧ (k.state = .cooldown → refused .cooling))
          ∧ (e.action = .off →
            (k.state ≠ .off → k.state ≠ .latched → k.state ≠ .disabled →
              outcome .ok
                { k with
                  state := .off
                  gate := .off
                  comparator := { k.comparator with armed := false, filterRunning := false }
                  timer := .none
                  cyclePending := none
                  cycleReturnWaiting := false
                  lastOff := .schedule }
                (s.budget.drop c))
            ∧ (k.state = .off → refused .already))
          ∧ (e.action = .cycle →
            (k.state = .on → k.cyclePending = none →
              outcome .ok
                { k with
                  state := .cycleOff
                  gate := .off
                  comparator := { k.comparator with armed := false, filterRunning := false }
                  cyclePending := none
                  timer := .cycle (s.deadline k.cfg.cycleTime) }
                { s.budget with
                  records := s.budget.records.set c ((s.budget.records.get c).map fun r : Reservation =>
                    { r with phase := .cycleOff, slot := false, claimWaiting := false }) })
            ∧ (k.state = .on → k.cyclePending ≠ none → refused .busy)
            ∧ (k.state = .cycleOff → refused .busy)
            ∧ (k.state = .starting ∨ k.state = .queued ∨ k.state = .off ∨ k.state = .cooldown → refused .notOn))
          ∧ (k.state = .latched → refused .latched)
          ∧ (k.state = .disabled → refused .notConfigured))

/-- The ends of a save's write and verify (R127, R128): the write leaves the storage with what it wrote and VERIFYING begins; a
verify that reads the capture back whole makes the target the current copy, and any other leaves it invalid; either posts
PROFILE_SAVED. The copy that is not the target, its record, the source, and the restart and RESET fields stay as they are. -/
def Obligations.SaveEnds : Prop :=
  ∀ (s : State) (k : CopyId) (w : WorkingConfig), s.powered = true → s.profile.target = some k →
    s.profile.capture = some w →
    let p := s.profile
    let restStays (q : Profile) : Prop :=
      q.restartPending = p.restartPending ∧ q.resetLevel = p.resetLevel ∧ q.resetFilter = p.resetFilter ∧ q.source = p.source
        ∧ ∀ other, other ≠ k → q.store other = p.store other ∧ q.record other = p.record other
    (p.saveState = .writing →
      ∀ result, ∃ t, exec (.saveWriteEnd result) s = .next t
        ∧ OnlyChanges [.profile] s t
        ∧ restStays t.profile ∧ t.profile.record k = p.record k ∧ t.profile.outcome = p.outcome
        ∧ t.profile.saveState = .verifying ∧ t.profile.current = p.current ∧ t.profile.unsaved = p.unsaved
        ∧ t.profile.target = some k ∧ t.profile.capture = some w ∧ t.profile.newGeneration = p.newGeneration
        ∧ (∀ g, p.newGeneration = some g → result = .complete →
            t.profile.store k = some { generation := g, contents := w, check := Config.crc32 g w })
        ∧ (∀ g found, p.newGeneration = some g → result = .other found ∨ result = .reportedFailure found →
            t.profile.store k = found)
        ∧ (p.newGeneration = none → t.profile.store k = none)
        ∧ (t.profile.writeFailed = true ↔ ∃ found, result = .reportedFailure found))
    ∧ (∀ g, p.saveState = .verifying → p.newGeneration = some g → p.writeFailed = false →
        p.store k = some { generation := g, contents := w, check := Config.crc32 g w } →
        ∃ u, exec .saveVerifyEnd s = .next u.settle
          ∧ OnlyChanges [.profile, .notices] s u
          ∧ restStays u.profile ∧ u.profile.newGeneration = none ∧ u.profile.writeFailed = false
          ∧ u.profile.saveState = .idle ∧ u.profile.target = none ∧ u.profile.current = some k
          ∧ u.profile.unsaved = false ∧ u.profile.record k = { valid := true, generation := g }
          ∧ u.profile.store k = p.store k ∧ u.profile.capture = some w
          ∧ u.profile.outcome = { outcome := .ok, copy := some k, generation := g }
          ∧ u.notices = s.notices.post s.uptime none (.profileSaved .ok (some k) g false))
    ∧ (p.saveState = .verifying →
        (p.newGeneration = none ∨ p.writeFailed = true
          ∨ ∃ g, p.newGeneration = some g
            ∧ p.store k ≠ some { generation := g, contents := w, check := Config.crc32 g w }) →
        ∃ u, exec .saveVerifyEnd s = .next u.settle
          ∧ OnlyChanges [.profile, .notices] s u
          ∧ restStays u.profile ∧ u.profile.newGeneration = none ∧ u.profile.writeFailed = false
          ∧ u.profile.saveState = .idle ∧ u.profile.target = none ∧ u.profile.current = p.current
          ∧ u.profile.unsaved = p.unsaved ∧ u.profile.record k = { valid := false, generation := 0 }
          ∧ u.profile.store k = none ∧ u.profile.capture = some w
          ∧ u.profile.outcome = { outcome := .writeFail, copy := some k, generation := 0 }
          ∧ u.notices = s.notices.post s.uptime none (.profileSaved .writeFail (some k) 0 p.unsaved))

/-! The serial line. -/

/-- The receiver takes a character (the table of R140, R141): its state, the gap timer of 5 ms, and one framing abort for a LEN out
of range, a character error inside a frame or a gap. While the line is still low after a break no character is taken (R143). A
character comes after the millisecond boundary by the model's reading of R1 (log 4), so the gap timer expires at uptime + 6. -/
def Obligations.ReceiverTakesCharacters : Prop :=
  ∀ (s : State) (char : Byte), s.powered = true →
    let l := s.link
    let took (r : Receiver) : Prop :=
      exec (.characterReceived char) s
        = .next { s.afterBoundary with link := { l with receiver := r, gapTimer := some (s.uptime + 6) } }.settle
    let aborted : Link :=
      { l with
        receiver := .hunt
        gapTimer := none
        stats := { l.stats with framingAborts := min 65535 (l.stats.framingAborts + 1) } }
    (l.breakWait = true →
      exec (.characterReceived char) s = .next s ∧ exec .receiveCharacterError s = .next s
        ∧ exec (.frameAbandonBadLen char) s = .next s ∧ exec (.frameComplete char) s = .next s)
    ∧ (l.breakWait = false →
      (l.receiver = .hunt → char = 0xA5 → took .length)
      ∧ (l.receiver = .hunt → char ≠ 0xA5 → exec (.characterReceived char) s = .next s.afterBoundary.settle)
      ∧ (l.receiver = .length → 2 ≤ char.toNat → char.toNat ≤ 250 → took (.body char []))
      ∧ (l.receiver = .length → char.toNat < 2 ∨ 250 < char.toNat →
          exec (.characterReceived char) s = .next { s.afterBoundary with link := aborted }.settle
          ∧ exec (.frameAbandonBadLen char) s = .next { s.afterBoundary with link := aborted })
      ∧ (∀ len got, l.receiver = .body len got → got.length + 1 < len.toNat → took (.body len (got ++ [char])))
      ∧ (∀ len got, l.receiver = .body len got → len.toNat ≤ got.length + 1 → took (.check len (got ++ [char]) none))
      ∧ (∀ len body, l.receiver = .check len body none → took (.check len body (some char)))
      ∧ (l.receiver ≠ .hunt → exec .receiveCharacterError s = .next { s.afterBoundary with link := aborted })
      ∧ (l.receiver = .hunt → exec .receiveCharacterError s = .next s.afterBoundary))
    ∧ (∀ deadline, l.receiver ≠ .hunt → l.gapTimer = some deadline → deadline ≤ s.uptime →
        exec .gapTimerExpiry s = .next { s with link := aborted })

/-- The second check byte completes a frame (R142, R145, R153): a check that fails counts one CRC error; one that passes gives the
valid-frame signal of an assigned KIND and meets the four cases of the queue and the reply list. -/
def Obligations.FramesComplete : Prop :=
  ∀ (s : State) (len first last kind seq : Byte) (payload : List Byte), s.powered = true → s.link.breakWait = false →
    s.link.receiver = .check len (kind :: seq :: payload) (some first) →
    let l := s.link
    let hunting : Link := { l with receiver := .hunt, gapTimer := none }
    let crc := crc16 (len :: kind :: seq :: payload)
    let signals := l.validSignals + if (ReqKind.ofCode? kind).isSome then 1 else 0
    let wait := if (ReqKind.ofCode? kind).isSome then l.validSignals + 1 else 0
    let ends (m : Link) : Prop :=
      exec (.frameComplete last) s = .next { s.afterBoundary with link := m }.settle
      ∧ exec (.characterReceived last) s = .next { s.afterBoundary with link := m }.settle
    let inHand := ∃ e ∈ l.queue, e.kind = kind ∧ e.seq = seq ∧ e.crc = crc
    (crc ≠ first ++ last →
      ends { hunting with stats := { l.stats with crcErrors := min 65535 (l.stats.crcErrors + 1) } })
    ∧ (crc = first ++ last → inHand →
      ends { hunting with
        validSignals := signals
        stats := { l.stats with duplicatesDiscarded := min 65535 (l.stats.duplicatesDiscarded + 1) } })
    ∧ (crc = first ++ last → ¬inHand → 4 ≤ l.queue.length →
      ends { hunting with
        validSignals := signals
        stats := { l.stats with overrunDiscards := min 65535 (l.stats.overrunDiscards + 1) } })
    ∧ (∀ kept, crc = first ++ last → ¬inHand → l.queue.length < 4 →
      l.replyList.find? (fun k => k.kind == kind && k.seq == seq && k.crc == crc) = some kept →
      ends { hunting with
        validSignals := signals
        nextId := l.nextId + 1
        queue := l.queue ++
          [{ id := l.nextId, kind := kind, seq := seq, crc := crc, payload := payload, form := .repeated
             phase := .answered, reply := kept.reply, awaiting := .nothing, signalWait := wait }]
        stats := { l.stats with duplicatesReplied := min 65535 (l.stats.duplicatesReplied + 1) } })
    ∧ (crc = first ++ last → ¬inHand → l.queue.length < 4 →
      (∀ k ∈ l.replyList, ¬(k.kind = kind ∧ k.seq = seq ∧ k.crc = crc)) →
      ends { hunting with
        validSignals := signals
        nextId := l.nextId + 1
        queue := l.queue ++
          [{ id := l.nextId, kind := kind, seq := seq, crc := crc, payload := payload, form := .new
             phase := .waiting, reply := [], awaiting := .nothing, signalWait := wait }] })

/-- A break is a link restart (R143, R152, R162, R171): the receiver hunts, every entry not being sent is discarded with its
reply-discarded signal, the reply list is emptied and an open session ends without host-loss action; channels, budget and the
rest stay. -/
def Obligations.BreakRestartsLink : Prop :=
  ∀ (s : State) (deadline : Nat), s.powered = true → s.link.breakTimer = some deadline → deadline ≤ s.uptime →
    ∃ t, exec .breakTimerExpiry s = .next t
      ∧ OnlyChanges [.link, .notices] s t
      ∧ t.link =
          { s.link with
            receiver := .hunt
            gapTimer := none
            breakTimer := none
            breakWait := true
            queue := s.link.queue.filter fun e => e.phase == ReqPhase.sending
            replyList := []
            signals := s.link.signals
              ++ ((s.link.queue.filter fun e => e.phase != ReqPhase.sending).filter fun e => e.awaiting != Awaiting.nothing).map
                (fun e => { target := e.awaiting, request := e.id, fate := .discarded })
            tx := match s.notices.sessionOpen, s.link.tx with
              | true, .notice n frame _ => .notice n frame true
              | _, x => x }
      ∧ (s.notices.sessionOpen = false → t.notices = s.notices)
      ∧ (s.notices.sessionOpen = true → t.notices =
          { s.notices with
            sessionOpen := false
            keepaliveTimer := none
            queue := s.notices.queue.map fun n => { n with delivery := .unsent, frameWaiting := false }
            ackTimer := none
            resend := 0
            stalled := false
            sentSignals := [] })

/-- The last character of a frame leaves (R146, R150, R151): a reply leaves the queue for the reply list, of which the newest four
stay, with reply-sent where its entry awaits a signal; a notice gives its notice-sent signal unless a session end has made it
stale; the arbiter then chooses the next frame. -/
def Obligations.FrameLeaves : Prop :=
  ∀ s : State, s.powered = true →
    (∀ (frame : List Byte) (e : ReqEntry) (rest : List ReqEntry), s.link.tx = .reply frame → s.link.queue = e :: rest →
      exec .transmitFrameEnd s = .next
        { s.afterBoundary with
          link :=
            { s.link with
              tx := .idle
              queue := rest
              replyList :=
                let kept := if e.form = ReqForm.new then s.link.replyList else s.link.replyList.filter fun k : KeptReply =>
                  !(k.kind == e.kind && k.seq == e.seq && k.crc == e.crc)
                let new : KeptReply := { kind := e.kind, seq := e.seq, crc := e.crc, reply := e.reply }
                (kept ++ [new]).drop (kept.length - 3)
              signals :=
                let sent : ReplySignal := { target := e.awaiting, request := e.id, fate := .sent }
                s.link.signals ++ if e.awaiting = Awaiting.nothing then [] else [sent] } }.nextFrame)
    ∧ (∀ nseq frame stale, s.link.tx = .notice nseq frame stale →
      exec .transmitFrameEnd s = .next
        { s.afterBoundary with
          link := { s.link with tx := .idle }
          notices := { s.notices with
            sentSignals := if stale then s.notices.sentSignals else s.notices.sentSignals ++ [nseq] } }.nextFrame)
    ∧ (s.link.tx = .idle → exec .transmitFrameEnd s = .next s)

/-! The Notice Unit's events. -/

/-- The valid-frame signal, the notice-sent signal and the acknowledgement timer (R159, R166, R168, R169). Signals come after the
millisecond boundary by the model's reading of R1 (log 4), so a keepalive of k ms expires at uptime + k + 1 and the
acknowledgement timer at uptime + 201. While delivery is stalled no notice is offered and the timer stays stopped; that this holds
at a notice-sent signal too is R168's, which the model follows where R166 names no stall (log 37). -/
def Obligations.DeliveryEvents : Prop :=
  ∀ s : State, s.powered = true →
    let u := s.notices
    let again (q : List Notice) := q.map fun n => if n.delivery = .inFlight then { n with frameWaiting := true } else n
    (0 < s.link.validSignals → ∃ t, exec .validFrameSignal s = .next t.settle
      ∧ OnlyChanges [.within, .link, .notices] s t
      ∧ t.link =
          { s.link with
            validSignals := s.link.validSignals - 1
            queue := s.link.queue.map fun e => { e with signalWait := e.signalWait - 1 } }
      ∧ t.notices.latestFrame = s.uptime
      ∧ t.notices.keepaliveTimer =
          (if u.sessionOpen = true ∧ u.keepalive ≠ 0 then some (s.uptime + u.keepalive + 1) else u.keepaliveTimer)
      ∧ (¬(u.sessionOpen = true ∧ u.stalled = true) →
          t.notices.queue = u.queue ∧ t.notices.resend = u.resend ∧ t.notices.stalled = u.stalled)
      ∧ (u.sessionOpen = true → u.stalled = true →
          t.notices.queue = offerUnsent (4 - windowCount u.queue) (again u.queue) ∧ t.notices.resend = 0
            ∧ t.notices.stalled = false))
    ∧ (∀ nseq, nseq ∈ u.sentSignals → (∃ n ∈ u.queue, n.nseq = nseq ∧ n.delivery ≠ .unsent) →
      exec (.noticeSent nseq) s = .next
        { s.afterBoundary with
          notices :=
            { u with
              sentSignals := u.sentSignals.erase nseq
              queue := u.queue.map fun n =>
                if n.nseq = nseq ∧ n.delivery = .offered then { n with delivery := .inFlight } else n
              ackTimer := if u.stalled = true then u.ackTimer else some (s.uptime + 201) } })
    ∧ (∀ nseq, nseq ∈ u.sentSignals → (∀ n ∈ u.queue, ¬(n.nseq = nseq ∧ n.delivery ≠ .unsent)) →
      exec (.noticeSent nseq) s = .next
        { s.afterBoundary with notices := { u with sentSignals := u.sentSignals.erase nseq } })
    ∧ (∀ deadline, u.ackTimer = some deadline → deadline ≤ s.uptime → u.stalled = false → u.resend < 3 →
      exec .ackTimerExpiry s = .next
        { s with notices := { u with ackTimer := none, resend := u.resend + 1, queue := again u.queue } }.settle)
    ∧ (∀ deadline, u.ackTimer = some deadline → deadline ≤ s.uptime → 3 ≤ u.resend →
      exec .ackTimerExpiry s = .next { s with notices := { u with ackTimer := none, stalled := true } }.settle)
    ∧ (∀ deadline, u.ackTimer = some deadline → deadline ≤ s.uptime → u.stalled = true →
      exec .ackTimerExpiry s = .next { s with notices := { u with ackTimer := none } }.settle)

/-- Host loss (R160, R162): the session ends; every SWITCH_OFF channel in QUEUED, STARTING, ON, CYCLE_OFF or COOLDOWN becomes OFF
with reason HOST_LOSS and gives up its record, its entry and its claim, which makes a scan due where it held a record or an entry;
no other channel, record, entry or claim is touched; a notice frame on the line is marked; the HOST_LOST notice names them. -/
def Obligations.KeepaliveLosesHost : Prop :=
  ∀ (s : State) (deadline : Nat), s.powered = true → s.notices.sessionOpen = true →
    s.notices.keepaliveTimer = some deadline → deadline ≤ s.uptime →
    let lost (c : Chan) : Bool :=
      decide ((s.chan c).cfg.hostLoss = .switchOff ∧ (s.chan c).state ≠ .disabled ∧ (s.chan c).state ≠ .off
        ∧ (s.chan c).state ≠ .latched)
    let ended : Notices :=
      { s.notices with
        sessionOpen := false
        keepaliveTimer := none
        queue := s.notices.queue.map fun n => { n with delivery := .unsent, frameWaiting := false }
        ackTimer := none
        resend := 0
        stalled := false
        sentSignals := [] }
    ∃ u, exec .keepaliveExpiry s = .next u.settle
      ∧ OnlyChanges ([.budget, .link, .notices] ++ Chan.all.map Part.chan) s u
      ∧ (∀ c, u.chan c =
          if lost c then
            { s.chan c with
              state := .off
              gate := .off
              comparator := { (s.chan c).comparator with armed := false, filterRunning := false }
              timer := .none
              cyclePending := none
              cycleReturnWaiting := false
              lastOff := .hostLoss }
          else s.chan c)
      ∧ u.budget =
          { s.budget with
            records := PerChan.ofFn fun c => if lost c then none else s.budget.records.get c
            claims := s.budget.claims.filter fun x => !lost x.chan
            queue := s.budget.queue.filter fun x => !lost x.chan
            scanDue := s.budget.scanDue || Chan.all.any fun c =>
              lost c && ((s.budget.records.get c).isSome || s.budget.queue.any fun x => x.chan == c) }
      ∧ u.link = { s.link with tx := match s.link.tx with | .notice n frame _ => .notice n frame true | x => x }
      ∧ u.notices = ended.post s.uptime none
          (.hostLost s.notices.keepalive s.notices.openedStamp s.notices.latestFrame
            ((Chan.all.filter lost).map fun c => (c, (s.chan c).state)))
end

