-- ==== Sys2Proof/Laws/Channels.lean ====
section
/-! SUPPORT. The lemmas of the channel numbers and of one value per channel: what reading after writing gives. -/

namespace Sys2Proof

@[simp] theorem Chan.mem_all (c : Chan) : c ∈ Chan.all := by cases c <;> decide

theorem Chan.all_nodup : Chan.all.Nodup := by decide

@[simp] theorem Chan.ofNat?_toNat (c : Chan) : Chan.ofNat? c.toNat = some c := by cases c <;> rfl

theorem Chan.toNat_injective {c d : Chan} (h : c.toNat = d.toNat) : c = d := by
  cases c <;> cases d <;> first | rfl | (simp [Chan.toNat] at h)

theorem Chan.toNat_lt (c : Chan) : c.toNat < 8 := by cases c <;> decide

namespace PerChan
variable {α : Type}

@[ext] theorem ext' {p q : PerChan α} (h : ∀ c, p.get c = q.get c) : p = q := by
  obtain ⟨_, _, _, _, _, _, _, _⟩ := p
  obtain ⟨_, _, _, _, _, _, _, _⟩ := q
  have h0 := h .ch0; have h1 := h .ch1; have h2 := h .ch2; have h3 := h .ch3
  have h4 := h .ch4; have h5 := h .ch5; have h6 := h .ch6; have h7 := h .ch7
  simp only [get] at h0 h1 h2 h3 h4 h5 h6 h7
  subst h0 h1 h2 h3 h4 h5 h6 h7
  rfl

@[simp] theorem get_set_self (p : PerChan α) (c : Chan) (x : α) : (p.set c x).get c = x := by cases c <;> rfl

theorem get_set_ne (p : PerChan α) {c d : Chan} (x : α) (h : d ≠ c) : (p.set c x).get d = p.get d := by
  cases c <;> cases d <;> first | rfl | exact absurd rfl h

theorem get_set (p : PerChan α) (c d : Chan) (x : α) : (p.set c x).get d = if d = c then x else p.get d := by
  split
  · next h => subst h; exact get_set_self ..
  · next h => exact get_set_ne _ _ h

@[simp] theorem set_get (p : PerChan α) (c : Chan) : p.set c (p.get c) = p := by cases c <;> rfl

@[simp] theorem set_set (p : PerChan α) (c : Chan) (x y : α) : (p.set c x).set c y = p.set c y := by cases c <;> rfl

@[simp] theorem get_update_self (p : PerChan α) (c : Chan) (f : α → α) : (p.update c f).get c = f (p.get c) :=
  get_set_self ..

theorem get_update_ne (p : PerChan α) {c d : Chan} (f : α → α) (h : d ≠ c) : (p.update c f).get d = p.get d :=
  get_set_ne _ _ h

theorem get_update (p : PerChan α) (c d : Chan) (f : α → α) :
    (p.update c f).get d = if d = c then f (p.get c) else p.get d := get_set ..

@[simp] theorem update_update (p : PerChan α) (c : Chan) (f g : α → α) :
    (p.update c f).update c g = p.update c (g ∘ f) := by cases c <;> rfl

@[simp] theorem get_ofFn (f : Chan → α) (c : Chan) : (ofFn f).get c = f c := by cases c <;> rfl

@[simp] theorem ofFn_get (p : PerChan α) : ofFn p.get = p := rfl

end PerChan
end Sys2Proof
end

