-- ==== Sys2Proof/Laws/State.lean ====
section
/-! SUPPORT. One lemma for each field of State under each named update of State: what the update writes there, or that it leaves
the field alone. -/

namespace Sys2Proof.Machine
variable (s : State)

@[simp] theorem State.onChan_powered (c : Chan) (f : Channel → Channel) : (s.onChan c f).powered = s.powered := rfl
@[simp] theorem State.onChan_uptime (c : Chan) (f : Channel → Channel) : (s.onChan c f).uptime = s.uptime := rfl
@[simp] theorem State.onChan_within (c : Chan) (f : Channel → Channel) : (s.onChan c f).within = s.within := rfl
@[simp] theorem State.onChan_draws (c : Chan) (f : Channel → Channel) : (s.onChan c f).draws = s.draws := rfl
@[simp] theorem State.onChan_pins (c : Chan) (f : Channel → Channel) : (s.onChan c f).pins = s.pins := rfl
@[simp] theorem State.onChan_chans (c : Chan) (f : Channel → Channel) : (s.onChan c f).chans = s.chans.update c f := rfl
@[simp] theorem State.onChan_budget (c : Chan) (f : Channel → Channel) : (s.onChan c f).budget = s.budget := rfl
@[simp] theorem State.onChan_sampler (c : Chan) (f : Channel → Channel) : (s.onChan c f).sampler = s.sampler := rfl
@[simp] theorem State.onChan_deliveries (c : Chan) (f : Channel → Channel) : (s.onChan c f).deliveries = s.deliveries := rfl
@[simp] theorem State.onChan_watches (c : Chan) (f : Channel → Channel) : (s.onChan c f).watches = s.watches := rfl
@[simp] theorem State.onChan_meter (c : Chan) (f : Channel → Channel) : (s.onChan c f).meter = s.meter := rfl
@[simp] theorem State.onChan_schedule (c : Chan) (f : Channel → Channel) : (s.onChan c f).schedule = s.schedule := rfl
@[simp] theorem State.onChan_profile (c : Chan) (f : Channel → Channel) : (s.onChan c f).profile = s.profile := rfl
@[simp] theorem State.onChan_link (c : Chan) (f : Channel → Channel) : (s.onChan c f).link = s.link := rfl
@[simp] theorem State.onChan_notices (c : Chan) (f : Channel → Channel) : (s.onChan c f).notices = s.notices := rfl
@[simp] theorem State.onChan_pending (c : Chan) (f : Channel → Channel) : (s.onChan c f).pending = s.pending := rfl

@[simp] theorem State.onBudget_powered (f : Budget → Budget) : (s.onBudget f).powered = s.powered := rfl
@[simp] theorem State.onBudget_uptime (f : Budget → Budget) : (s.onBudget f).uptime = s.uptime := rfl
@[simp] theorem State.onBudget_within (f : Budget → Budget) : (s.onBudget f).within = s.within := rfl
@[simp] theorem State.onBudget_draws (f : Budget → Budget) : (s.onBudget f).draws = s.draws := rfl
@[simp] theorem State.onBudget_pins (f : Budget → Budget) : (s.onBudget f).pins = s.pins := rfl
@[simp] theorem State.onBudget_chans (f : Budget → Budget) : (s.onBudget f).chans = s.chans := rfl
@[simp] theorem State.onBudget_budget (f : Budget → Budget) : (s.onBudget f).budget = f s.budget := rfl
@[simp] theorem State.onBudget_sampler (f : Budget → Budget) : (s.onBudget f).sampler = s.sampler := rfl
@[simp] theorem State.onBudget_deliveries (f : Budget → Budget) : (s.onBudget f).deliveries = s.deliveries := rfl
@[simp] theorem State.onBudget_watches (f : Budget → Budget) : (s.onBudget f).watches = s.watches := rfl
@[simp] theorem State.onBudget_meter (f : Budget → Budget) : (s.onBudget f).meter = s.meter := rfl
@[simp] theorem State.onBudget_schedule (f : Budget → Budget) : (s.onBudget f).schedule = s.schedule := rfl
@[simp] theorem State.onBudget_profile (f : Budget → Budget) : (s.onBudget f).profile = s.profile := rfl
@[simp] theorem State.onBudget_link (f : Budget → Budget) : (s.onBudget f).link = s.link := rfl
@[simp] theorem State.onBudget_notices (f : Budget → Budget) : (s.onBudget f).notices = s.notices := rfl
@[simp] theorem State.onBudget_pending (f : Budget → Budget) : (s.onBudget f).pending = s.pending := rfl
@[simp] theorem State.onBudget_chan (f : Budget → Budget) (d : Chan) : (s.onBudget f).chan d = s.chan d := rfl

@[simp] theorem State.onProfile_powered (f : Profile → Profile) : (s.onProfile f).powered = s.powered := rfl
@[simp] theorem State.onProfile_uptime (f : Profile → Profile) : (s.onProfile f).uptime = s.uptime := rfl
@[simp] theorem State.onProfile_within (f : Profile → Profile) : (s.onProfile f).within = s.within := rfl
@[simp] theorem State.onProfile_draws (f : Profile → Profile) : (s.onProfile f).draws = s.draws := rfl
@[simp] theorem State.onProfile_pins (f : Profile → Profile) : (s.onProfile f).pins = s.pins := rfl
@[simp] theorem State.onProfile_chans (f : Profile → Profile) : (s.onProfile f).chans = s.chans := rfl
@[simp] theorem State.onProfile_budget (f : Profile → Profile) : (s.onProfile f).budget = s.budget := rfl
@[simp] theorem State.onProfile_sampler (f : Profile → Profile) : (s.onProfile f).sampler = s.sampler := rfl
@[simp] theorem State.onProfile_deliveries (f : Profile → Profile) : (s.onProfile f).deliveries = s.deliveries := rfl
@[simp] theorem State.onProfile_watches (f : Profile → Profile) : (s.onProfile f).watches = s.watches := rfl
@[simp] theorem State.onProfile_meter (f : Profile → Profile) : (s.onProfile f).meter = s.meter := rfl
@[simp] theorem State.onProfile_schedule (f : Profile → Profile) : (s.onProfile f).schedule = s.schedule := rfl
@[simp] theorem State.onProfile_profile (f : Profile → Profile) : (s.onProfile f).profile = f s.profile := rfl
@[simp] theorem State.onProfile_link (f : Profile → Profile) : (s.onProfile f).link = s.link := rfl
@[simp] theorem State.onProfile_notices (f : Profile → Profile) : (s.onProfile f).notices = s.notices := rfl
@[simp] theorem State.onProfile_pending (f : Profile → Profile) : (s.onProfile f).pending = s.pending := rfl
@[simp] theorem State.onProfile_chan (f : Profile → Profile) (d : Chan) : (s.onProfile f).chan d = s.chan d := rfl

@[simp] theorem State.onLink_powered (f : Link → Link) : (s.onLink f).powered = s.powered := rfl
@[simp] theorem State.onLink_uptime (f : Link → Link) : (s.onLink f).uptime = s.uptime := rfl
@[simp] theorem State.onLink_within (f : Link → Link) : (s.onLink f).within = s.within := rfl
@[simp] theorem State.onLink_draws (f : Link → Link) : (s.onLink f).draws = s.draws := rfl
@[simp] theorem State.onLink_pins (f : Link → Link) : (s.onLink f).pins = s.pins := rfl
@[simp] theorem State.onLink_chans (f : Link → Link) : (s.onLink f).chans = s.chans := rfl
@[simp] theorem State.onLink_budget (f : Link → Link) : (s.onLink f).budget = s.budget := rfl
@[simp] theorem State.onLink_sampler (f : Link → Link) : (s.onLink f).sampler = s.sampler := rfl
@[simp] theorem State.onLink_deliveries (f : Link → Link) : (s.onLink f).deliveries = s.deliveries := rfl
@[simp] theorem State.onLink_watches (f : Link → Link) : (s.onLink f).watches = s.watches := rfl
@[simp] theorem State.onLink_meter (f : Link → Link) : (s.onLink f).meter = s.meter := rfl
@[simp] theorem State.onLink_schedule (f : Link → Link) : (s.onLink f).schedule = s.schedule := rfl
@[simp] theorem State.onLink_profile (f : Link → Link) : (s.onLink f).profile = s.profile := rfl
@[simp] theorem State.onLink_link (f : Link → Link) : (s.onLink f).link = f s.link := rfl
@[simp] theorem State.onLink_notices (f : Link → Link) : (s.onLink f).notices = s.notices := rfl
@[simp] theorem State.onLink_pending (f : Link → Link) : (s.onLink f).pending = s.pending := rfl
@[simp] theorem State.onLink_chan (f : Link → Link) (d : Chan) : (s.onLink f).chan d = s.chan d := rfl

@[simp] theorem State.onNotices_powered (f : Notices → Notices) : (s.onNotices f).powered = s.powered := rfl
@[simp] theorem State.onNotices_uptime (f : Notices → Notices) : (s.onNotices f).uptime = s.uptime := rfl
@[simp] theorem State.onNotices_within (f : Notices → Notices) : (s.onNotices f).within = s.within := rfl
@[simp] theorem State.onNotices_draws (f : Notices → Notices) : (s.onNotices f).draws = s.draws := rfl
@[simp] theorem State.onNotices_pins (f : Notices → Notices) : (s.onNotices f).pins = s.pins := rfl
@[simp] theorem State.onNotices_chans (f : Notices → Notices) : (s.onNotices f).chans = s.chans := rfl
@[simp] theorem State.onNotices_budget (f : Notices → Notices) : (s.onNotices f).budget = s.budget := rfl
@[simp] theorem State.onNotices_sampler (f : Notices → Notices) : (s.onNotices f).sampler = s.sampler := rfl
@[simp] theorem State.onNotices_deliveries (f : Notices → Notices) : (s.onNotices f).deliveries = s.deliveries := rfl
@[simp] theorem State.onNotices_watches (f : Notices → Notices) : (s.onNotices f).watches = s.watches := rfl
@[simp] theorem State.onNotices_meter (f : Notices → Notices) : (s.onNotices f).meter = s.meter := rfl
@[simp] theorem State.onNotices_schedule (f : Notices → Notices) : (s.onNotices f).schedule = s.schedule := rfl
@[simp] theorem State.onNotices_profile (f : Notices → Notices) : (s.onNotices f).profile = s.profile := rfl
@[simp] theorem State.onNotices_link (f : Notices → Notices) : (s.onNotices f).link = s.link := rfl
@[simp] theorem State.onNotices_notices (f : Notices → Notices) : (s.onNotices f).notices = f s.notices := rfl
@[simp] theorem State.onNotices_pending (f : Notices → Notices) : (s.onNotices f).pending = s.pending := rfl
@[simp] theorem State.onNotices_chan (f : Notices → Notices) (d : Chan) : (s.onNotices f).chan d = s.chan d := rfl

@[simp] theorem State.afterBoundary_powered : (s.afterBoundary).powered = s.powered := rfl
@[simp] theorem State.afterBoundary_uptime : (s.afterBoundary).uptime = s.uptime := rfl
@[simp] theorem State.afterBoundary_within : (s.afterBoundary).within = true := rfl
@[simp] theorem State.afterBoundary_draws : (s.afterBoundary).draws = s.draws := rfl
@[simp] theorem State.afterBoundary_pins : (s.afterBoundary).pins = s.pins := rfl
@[simp] theorem State.afterBoundary_chans : (s.afterBoundary).chans = s.chans := rfl
@[simp] theorem State.afterBoundary_budget : (s.afterBoundary).budget = s.budget := rfl
@[simp] theorem State.afterBoundary_sampler : (s.afterBoundary).sampler = s.sampler := rfl
@[simp] theorem State.afterBoundary_deliveries : (s.afterBoundary).deliveries = s.deliveries := rfl
@[simp] theorem State.afterBoundary_watches : (s.afterBoundary).watches = s.watches := rfl
@[simp] theorem State.afterBoundary_meter : (s.afterBoundary).meter = s.meter := rfl
@[simp] theorem State.afterBoundary_schedule : (s.afterBoundary).schedule = s.schedule := rfl
@[simp] theorem State.afterBoundary_profile : (s.afterBoundary).profile = s.profile := rfl
@[simp] theorem State.afterBoundary_link : (s.afterBoundary).link = s.link := rfl
@[simp] theorem State.afterBoundary_notices : (s.afterBoundary).notices = s.notices := rfl
@[simp] theorem State.afterBoundary_pending : (s.afterBoundary).pending = s.pending := rfl
@[simp] theorem State.afterBoundary_chan (d : Chan) : (s.afterBoundary).chan d = s.chan d := rfl

@[simp] theorem State.setWatch_powered (n : Nat) (w : Option Watch) : (s.setWatch n w).powered = s.powered := rfl
@[simp] theorem State.setWatch_uptime (n : Nat) (w : Option Watch) : (s.setWatch n w).uptime = s.uptime := rfl
@[simp] theorem State.setWatch_within (n : Nat) (w : Option Watch) : (s.setWatch n w).within = s.within := rfl
@[simp] theorem State.setWatch_draws (n : Nat) (w : Option Watch) : (s.setWatch n w).draws = s.draws := rfl
@[simp] theorem State.setWatch_pins (n : Nat) (w : Option Watch) : (s.setWatch n w).pins = s.pins := rfl
@[simp] theorem State.setWatch_chans (n : Nat) (w : Option Watch) : (s.setWatch n w).chans = s.chans := rfl
@[simp] theorem State.setWatch_budget (n : Nat) (w : Option Watch) : (s.setWatch n w).budget = s.budget := rfl
@[simp] theorem State.setWatch_sampler (n : Nat) (w : Option Watch) : (s.setWatch n w).sampler = s.sampler := rfl
@[simp] theorem State.setWatch_deliveries (n : Nat) (w : Option Watch) : (s.setWatch n w).deliveries = s.deliveries := rfl
@[simp] theorem State.setWatch_watches (n : Nat) (w : Option Watch) : (s.setWatch n w).watches = s.watches.set n w := rfl
@[simp] theorem State.setWatch_meter (n : Nat) (w : Option Watch) : (s.setWatch n w).meter = s.meter := rfl
@[simp] theorem State.setWatch_schedule (n : Nat) (w : Option Watch) : (s.setWatch n w).schedule = s.schedule := rfl
@[simp] theorem State.setWatch_profile (n : Nat) (w : Option Watch) : (s.setWatch n w).profile = s.profile := rfl
@[simp] theorem State.setWatch_link (n : Nat) (w : Option Watch) : (s.setWatch n w).link = s.link := rfl
@[simp] theorem State.setWatch_notices (n : Nat) (w : Option Watch) : (s.setWatch n w).notices = s.notices := rfl
@[simp] theorem State.setWatch_pending (n : Nat) (w : Option Watch) : (s.setWatch n w).pending = s.pending := rfl
@[simp] theorem State.setWatch_chan (n : Nat) (w : Option Watch) (d : Chan) : (s.setWatch n w).chan d = s.chan d := rfl

@[simp] theorem State.markUnsaved_powered : (s.markUnsaved).powered = s.powered := rfl
@[simp] theorem State.markUnsaved_uptime : (s.markUnsaved).uptime = s.uptime := rfl
@[simp] theorem State.markUnsaved_within : (s.markUnsaved).within = s.within := rfl
@[simp] theorem State.markUnsaved_draws : (s.markUnsaved).draws = s.draws := rfl
@[simp] theorem State.markUnsaved_pins : (s.markUnsaved).pins = s.pins := rfl
@[simp] theorem State.markUnsaved_chans : (s.markUnsaved).chans = s.chans := rfl
@[simp] theorem State.markUnsaved_budget : (s.markUnsaved).budget = s.budget := rfl
@[simp] theorem State.markUnsaved_sampler : (s.markUnsaved).sampler = s.sampler := rfl
@[simp] theorem State.markUnsaved_deliveries : (s.markUnsaved).deliveries = s.deliveries := rfl
@[simp] theorem State.markUnsaved_watches : (s.markUnsaved).watches = s.watches := rfl
@[simp] theorem State.markUnsaved_meter : (s.markUnsaved).meter = s.meter := rfl
@[simp] theorem State.markUnsaved_schedule : (s.markUnsaved).schedule = s.schedule := rfl
@[simp] theorem State.markUnsaved_profile : (s.markUnsaved).profile = { s.profile with unsaved := true } := rfl
@[simp] theorem State.markUnsaved_link : (s.markUnsaved).link = s.link := rfl
@[simp] theorem State.markUnsaved_notices : (s.markUnsaved).notices = s.notices := rfl
@[simp] theorem State.markUnsaved_pending : (s.markUnsaved).pending = s.pending := rfl
@[simp] theorem State.markUnsaved_chan (d : Chan) : (s.markUnsaved).chan d = s.chan d := rfl

@[simp] theorem State.post_powered (ch : Option Chan) (b : NoticeBody) : (s.post ch b).powered = s.powered := rfl
@[simp] theorem State.post_uptime (ch : Option Chan) (b : NoticeBody) : (s.post ch b).uptime = s.uptime := rfl
@[simp] theorem State.post_within (ch : Option Chan) (b : NoticeBody) : (s.post ch b).within = s.within := rfl
@[simp] theorem State.post_draws (ch : Option Chan) (b : NoticeBody) : (s.post ch b).draws = s.draws := rfl
@[simp] theorem State.post_pins (ch : Option Chan) (b : NoticeBody) : (s.post ch b).pins = s.pins := rfl
@[simp] theorem State.post_chans (ch : Option Chan) (b : NoticeBody) : (s.post ch b).chans = s.chans := rfl
@[simp] theorem State.post_budget (ch : Option Chan) (b : NoticeBody) : (s.post ch b).budget = s.budget := rfl
@[simp] theorem State.post_sampler (ch : Option Chan) (b : NoticeBody) : (s.post ch b).sampler = s.sampler := rfl
@[simp] theorem State.post_deliveries (ch : Option Chan) (b : NoticeBody) : (s.post ch b).deliveries = s.deliveries := rfl
@[simp] theorem State.post_watches (ch : Option Chan) (b : NoticeBody) : (s.post ch b).watches = s.watches := rfl
@[simp] theorem State.post_meter (ch : Option Chan) (b : NoticeBody) : (s.post ch b).meter = s.meter := rfl
@[simp] theorem State.post_schedule (ch : Option Chan) (b : NoticeBody) : (s.post ch b).schedule = s.schedule := rfl
@[simp] theorem State.post_profile (ch : Option Chan) (b : NoticeBody) : (s.post ch b).profile = s.profile := rfl
@[simp] theorem State.post_link (ch : Option Chan) (b : NoticeBody) : (s.post ch b).link = s.link := rfl
@[simp] theorem State.post_notices (ch : Option Chan) (b : NoticeBody) : (s.post ch b).notices = s.notices.post s.uptime ch b := rfl
@[simp] theorem State.post_pending (ch : Option Chan) (b : NoticeBody) : (s.post ch b).pending = s.pending := rfl
@[simp] theorem State.post_chan (ch : Option Chan) (b : NoticeBody) (d : Chan) : (s.post ch b).chan d = s.chan d := rfl

@[simp] theorem State.endSession_powered : (s.endSession).powered = s.powered := rfl
@[simp] theorem State.endSession_uptime : (s.endSession).uptime = s.uptime := rfl
@[simp] theorem State.endSession_within : (s.endSession).within = s.within := rfl
@[simp] theorem State.endSession_draws : (s.endSession).draws = s.draws := rfl
@[simp] theorem State.endSession_pins : (s.endSession).pins = s.pins := rfl
@[simp] theorem State.endSession_chans : (s.endSession).chans = s.chans := rfl
@[simp] theorem State.endSession_budget : (s.endSession).budget = s.budget := rfl
@[simp] theorem State.endSession_sampler : (s.endSession).sampler = s.sampler := rfl
@[simp] theorem State.endSession_deliveries : (s.endSession).deliveries = s.deliveries := rfl
@[simp] theorem State.endSession_watches : (s.endSession).watches = s.watches := rfl
@[simp] theorem State.endSession_meter : (s.endSession).meter = s.meter := rfl
@[simp] theorem State.endSession_schedule : (s.endSession).schedule = s.schedule := rfl
@[simp] theorem State.endSession_profile : (s.endSession).profile = s.profile := rfl
@[simp] theorem State.endSession_link : (s.endSession).link = { s.link with tx := s.link.tx.markStale } := rfl
@[simp] theorem State.endSession_notices : (s.endSession).notices = s.notices.endSession := rfl
@[simp] theorem State.endSession_pending : (s.endSession).pending = s.pending := rfl
@[simp] theorem State.endSession_chan (d : Chan) : (s.endSession).chan d = s.chan d := rfl

@[simp] theorem State.runScan_powered : (s.runScan).powered = s.powered := rfl
@[simp] theorem State.runScan_uptime : (s.runScan).uptime = s.uptime := rfl
@[simp] theorem State.runScan_within : (s.runScan).within = s.within := rfl
@[simp] theorem State.runScan_draws : (s.runScan).draws = s.draws := rfl
@[simp] theorem State.runScan_pins : (s.runScan).pins = s.pins := rfl
@[simp] theorem State.runScan_chans : (s.runScan).chans = s.chans := rfl
@[simp] theorem State.runScan_budget : (s.runScan).budget = s.budget.runScan s.uptime := rfl
@[simp] theorem State.runScan_sampler : (s.runScan).sampler = s.sampler := rfl
@[simp] theorem State.runScan_deliveries : (s.runScan).deliveries = s.deliveries := rfl
@[simp] theorem State.runScan_watches : (s.runScan).watches = s.watches := rfl
@[simp] theorem State.runScan_meter : (s.runScan).meter = s.meter := rfl
@[simp] theorem State.runScan_schedule : (s.runScan).schedule = s.schedule := rfl
@[simp] theorem State.runScan_profile : (s.runScan).profile = s.profile := rfl
@[simp] theorem State.runScan_link : (s.runScan).link = s.link := rfl
@[simp] theorem State.runScan_notices : (s.runScan).notices = s.notices := rfl
@[simp] theorem State.runScan_pending : (s.runScan).pending = s.pending := rfl
@[simp] theorem State.runScan_chan (d : Chan) : (s.runScan).chan d = s.chan d := rfl

@[simp] theorem State.removeGrant_powered (g : Grant) : (s.removeGrant g).powered = s.powered := rfl
@[simp] theorem State.removeGrant_uptime (g : Grant) : (s.removeGrant g).uptime = s.uptime := rfl
@[simp] theorem State.removeGrant_within (g : Grant) : (s.removeGrant g).within = s.within := rfl
@[simp] theorem State.removeGrant_draws (g : Grant) : (s.removeGrant g).draws = s.draws := rfl
@[simp] theorem State.removeGrant_pins (g : Grant) : (s.removeGrant g).pins = s.pins := rfl
@[simp] theorem State.removeGrant_chans (g : Grant) : (s.removeGrant g).chans = s.chans := rfl
@[simp] theorem State.removeGrant_budget (g : Grant) : (s.removeGrant g).budget = { s.budget with grants := s.budget.grants.erase g } := rfl
@[simp] theorem State.removeGrant_sampler (g : Grant) : (s.removeGrant g).sampler = s.sampler := rfl
@[simp] theorem State.removeGrant_deliveries (g : Grant) : (s.removeGrant g).deliveries = s.deliveries := rfl
@[simp] theorem State.removeGrant_watches (g : Grant) : (s.removeGrant g).watches = s.watches := rfl
@[simp] theorem State.removeGrant_meter (g : Grant) : (s.removeGrant g).meter = s.meter := rfl
@[simp] theorem State.removeGrant_schedule (g : Grant) : (s.removeGrant g).schedule = s.schedule := rfl
@[simp] theorem State.removeGrant_profile (g : Grant) : (s.removeGrant g).profile = s.profile := rfl
@[simp] theorem State.removeGrant_link (g : Grant) : (s.removeGrant g).link = s.link := rfl
@[simp] theorem State.removeGrant_notices (g : Grant) : (s.removeGrant g).notices = s.notices := rfl
@[simp] theorem State.removeGrant_pending (g : Grant) : (s.removeGrant g).pending = s.pending := rfl
@[simp] theorem State.removeGrant_chan (g : Grant) (d : Chan) : (s.removeGrant g).chan d = s.chan d := rfl

@[simp] theorem State.removeSignal_powered (x : ReplySignal) : (s.removeSignal x).powered = s.powered := rfl
@[simp] theorem State.removeSignal_uptime (x : ReplySignal) : (s.removeSignal x).uptime = s.uptime := rfl
@[simp] theorem State.removeSignal_within (x : ReplySignal) : (s.removeSignal x).within = s.within := rfl
@[simp] theorem State.removeSignal_draws (x : ReplySignal) : (s.removeSignal x).draws = s.draws := rfl
@[simp] theorem State.removeSignal_pins (x : ReplySignal) : (s.removeSignal x).pins = s.pins := rfl
@[simp] theorem State.removeSignal_chans (x : ReplySignal) : (s.removeSignal x).chans = s.chans := rfl
@[simp] theorem State.removeSignal_budget (x : ReplySignal) : (s.removeSignal x).budget = s.budget := rfl
@[simp] theorem State.removeSignal_sampler (x : ReplySignal) : (s.removeSignal x).sampler = s.sampler := rfl
@[simp] theorem State.removeSignal_deliveries (x : ReplySignal) : (s.removeSignal x).deliveries = s.deliveries := rfl
@[simp] theorem State.removeSignal_watches (x : ReplySignal) : (s.removeSignal x).watches = s.watches := rfl
@[simp] theorem State.removeSignal_meter (x : ReplySignal) : (s.removeSignal x).meter = s.meter := rfl
@[simp] theorem State.removeSignal_schedule (x : ReplySignal) : (s.removeSignal x).schedule = s.schedule := rfl
@[simp] theorem State.removeSignal_profile (x : ReplySignal) : (s.removeSignal x).profile = s.profile := rfl
@[simp] theorem State.removeSignal_link (x : ReplySignal) : (s.removeSignal x).link = { s.link with signals := s.link.signals.erase x } := rfl
@[simp] theorem State.removeSignal_notices (x : ReplySignal) : (s.removeSignal x).notices = s.notices := rfl
@[simp] theorem State.removeSignal_pending (x : ReplySignal) : (s.removeSignal x).pending = s.pending := rfl
@[simp] theorem State.removeSignal_chan (x : ReplySignal) (d : Chan) : (s.removeSignal x).chan d = s.chan d := rfl

@[simp] theorem State.startReply_powered : (s.startReply).powered = s.powered := rfl
@[simp] theorem State.startReply_uptime : (s.startReply).uptime = s.uptime := rfl
@[simp] theorem State.startReply_within : (s.startReply).within = s.within := rfl
@[simp] theorem State.startReply_draws : (s.startReply).draws = s.draws := rfl
@[simp] theorem State.startReply_pins : (s.startReply).pins = s.pins := rfl
@[simp] theorem State.startReply_chans : (s.startReply).chans = s.chans := rfl
@[simp] theorem State.startReply_budget : (s.startReply).budget = s.budget := rfl
@[simp] theorem State.startReply_sampler : (s.startReply).sampler = s.sampler := rfl
@[simp] theorem State.startReply_deliveries : (s.startReply).deliveries = s.deliveries := rfl
@[simp] theorem State.startReply_watches : (s.startReply).watches = s.watches := rfl
@[simp] theorem State.startReply_meter : (s.startReply).meter = s.meter := rfl
@[simp] theorem State.startReply_schedule : (s.startReply).schedule = s.schedule := rfl
@[simp] theorem State.startReply_profile : (s.startReply).profile = s.profile := rfl
@[simp] theorem State.startReply_link : (s.startReply).link = s.link.startReply := rfl
@[simp] theorem State.startReply_notices : (s.startReply).notices = s.notices := rfl
@[simp] theorem State.startReply_pending : (s.startReply).pending = s.pending := rfl
@[simp] theorem State.startReply_chan (d : Chan) : (s.startReply).chan d = s.chan d := rfl

@[simp] theorem State.onChan_chan_self (c : Chan) (f : Channel → Channel) : (s.onChan c f).chan c = f (s.chan c) :=
  PerChan.get_update_self ..

theorem State.onChan_chan_ne {c d : Chan} (f : Channel → Channel) (h : d ≠ c) : (s.onChan c f).chan d = s.chan d :=
  PerChan.get_update_ne _ _ h

theorem State.onChan_chan (c d : Chan) (f : Channel → Channel) :
    (s.onChan c f).chan d = if d = c then f (s.chan c) else s.chan d := PerChan.get_update ..

/-- Two states are the same where every field is. -/
theorem State.ext_fields {s t : State} (h1 : s.powered = t.powered) (h2 : s.uptime = t.uptime) (h3 : s.within = t.within)
    (h4 : s.draws = t.draws) (h5 : s.pins = t.pins) (h6 : ∀ c, s.chan c = t.chan c) (h7 : s.budget = t.budget)
    (h8 : s.sampler = t.sampler) (h9 : s.deliveries = t.deliveries) (h10 : s.watches = t.watches)
    (h11 : s.meter = t.meter) (h12 : s.schedule = t.schedule) (h13 : s.profile = t.profile) (h14 : s.link = t.link)
    (h15 : s.notices = t.notices) (h16 : s.pending = t.pending) : s = t := by
  have hc : s.chans = t.chans := PerChan.ext' h6
  cases s; cases t
  simp only at h1 h2 h3 h4 h5 hc h7 h8 h9 h10 h11 h12 h13 h14 h15 h16
  subst h1 h2 h3 h4 h5 hc h7 h8 h9 h10 h11 h12 h13 h14 h15 h16
  rfl

end Sys2Proof.Machine
end

