-- ==== Sys2Proof/Laws/Budget.lean ====
section
/-! SUPPORT. What each operation of the Budget Manager on its own state can do: the sums over the records, the queue, the claims,
the scan, and shed rank. -/

namespace Sys2Proof.Machine

/-- The share of one channel in a sum over the records. -/
theorem recordSum_eq (records : PerChan (Option Reservation)) (f : Reservation → Nat) :
    recordSum records f
      = ((records.get .ch0).map f).getD 0 + ((records.get .ch1).map f).getD 0 + ((records.get .ch2).map f).getD 0
        + ((records.get .ch3).map f).getD 0 + ((records.get .ch4).map f).getD 0 + ((records.get .ch5).map f).getD 0
        + ((records.get .ch6).map f).getD 0 + ((records.get .ch7).map f).getD 0 := by
  simp [recordSum, Chan.all, Nat.add_assoc]

/-- A record that changes moves every sum by the difference of its own share. -/
theorem recordSum_set (records : PerChan (Option Reservation)) (f : Reservation → Nat) (c : Chan)
    (x : Option Reservation) :
    recordSum (records.set c x) f + ((records.get c).map f).getD 0 = recordSum records f + (x.map f).getD 0 := by
  rw [recordSum_eq, recordSum_eq]
  cases c <;> simp only [PerChan.set, PerChan.get] <;> omega

/-- With no record held every sum is 0. -/
theorem recordSum_none (records : PerChan (Option Reservation)) (f : Reservation → Nat)
    (h : ∀ c, records.get c = none) : recordSum records f = 0 := by
  rw [recordSum_eq]
  simp [h]

variable (b : Budget)

theorem Budget.onRecord_get (c d : Chan) (f : Reservation → Reservation) :
    (b.onRecord c f).records.get d = if d = c then (b.records.get c).map f else b.records.get d :=
  PerChan.get_update ..

/-- What a channel that gives up everything leaves with the Budget Manager (R32, R36, R38). -/
theorem Budget.drop_spec (c : Chan) :
    (b.drop c).records.get c = none
    ∧ (∀ d, d ≠ c → (b.drop c).records.get d = b.records.get d)
    ∧ (∀ e, e ∈ (b.drop c).queue ↔ e ∈ b.queue ∧ e.chan ≠ c)
    ∧ (∀ x, x ∈ (b.drop c).claims ↔ x ∈ b.claims ∧ x.chan ≠ c) :=
  ⟨PerChan.get_set_self .., fun _ h => PerChan.get_set_ne _ _ h, fun e => by simp [Budget.drop],
    fun x => by simp [Budget.drop]⟩

/-- The entries after a join at the tail of a class. -/
theorem mem_insertTail (e x : Waiting) (q : List Waiting) : x ∈ insertTail e q ↔ x = e ∨ x ∈ q := by
  have h := List.takeWhile_append_dropWhile (p := fun y : Waiting => decide (y.cls ≤ e.cls)) (l := q)
  constructor
  · intro hx
    simp only [insertTail, List.mem_append, List.mem_cons] at hx
    rcases hx with hx | hx | hx
    · exact .inr (h ▸ List.mem_append_left _ hx)
    · exact .inl hx
    · exact .inr (h ▸ List.mem_append_right _ hx)
  · intro hx
    simp only [insertTail, List.mem_append, List.mem_cons]
    rcases hx with hx | hx
    · exact .inr (.inl hx)
    · rw [← h] at hx
      rcases List.mem_append.1 hx with hx | hx
      · exact .inl hx
      · exact .inr (.inr hx)

/-- The entries after a join at the head of a class. -/
theorem mem_insertHead (e x : Waiting) (q : List Waiting) : x ∈ insertHead e q ↔ x = e ∨ x ∈ q := by
  have h := List.takeWhile_append_dropWhile (p := fun y : Waiting => decide (y.cls < e.cls)) (l := q)
  constructor
  · intro hx
    simp only [insertHead, List.mem_append, List.mem_cons] at hx
    rcases hx with hx | hx | hx
    · exact .inr (h ▸ List.mem_append_left _ hx)
    · exact .inl hx
    · exact .inr (h ▸ List.mem_append_right _ hx)
  · intro hx
    simp only [insertHead, List.mem_append, List.mem_cons]
    rcases hx with hx | hx
    · exact .inr (.inl hx)
    · rw [← h] at hx
      rcases List.mem_append.1 hx with hx | hx
      · exact .inl hx
      · exact .inr (.inr hx)

/-- The claims after one is placed (R38). -/
theorem mem_insertClaim (x y : Claim) (l : List Claim) : y ∈ insertClaim x l ↔ y = x ∨ y ∈ l := by
  induction l with
  | nil => simp [insertClaim]
  | cons z rest ih =>
    unfold insertClaim
    split
    · simp
    · simp only [List.mem_cons, ih]
      tauto

/-- The place of a claim (R38): behind every claim of an earlier expiry, or of the same one and no higher channel, and before the
first that is neither. -/
theorem insertClaim_place (x : Claim) (l : List Claim) :
    ∃ before behind, l = before ++ behind ∧ insertClaim x l = before ++ x :: behind
      ∧ (∀ y ∈ before, y.expiry < x.expiry ∨ (y.expiry = x.expiry ∧ y.chan.toNat ≤ x.chan.toNat))
      ∧ ∀ y rest, behind = y :: rest → x.expiry < y.expiry ∨ (x.expiry = y.expiry ∧ x.chan.toNat < y.chan.toNat) := by
  induction l with
  | nil => exact ⟨[], [], rfl, rfl, by simp, by simp⟩
  | cons z rest ih =>
    by_cases h : x.expiry < z.expiry ∨ (x.expiry = z.expiry ∧ x.chan.toNat < z.chan.toNat)
    · refine ⟨[], z :: rest, rfl, by simp [insertClaim, h], by simp, ?_⟩
      rintro y r hy
      obtain ⟨rfl, -⟩ := List.cons.inj hy
      exact h
    · obtain ⟨before, behind, h1, h2, h3, h4⟩ := ih
      refine ⟨z :: before, behind, by simp [h1], by simp [insertClaim, h, h2], ?_, h4⟩
      rintro y hy
      rcases List.mem_cons.1 hy with rfl | hy
      · omega
      · exact h3 y hy

/-- What a join is (R31): the entry, and which numbers it takes. -/
theorem Budget.join_spec (now : Nat) (c : Chan) (cfg : ChannelConfig) (origin : Origin) (x : Waiting) :
    (x ∈ (b.join now c cfg origin).queue ↔
      x ∈ b.queue ∨ x = { chan := c, cls := cfg.cls, allowance := cfg.allowance, joinStamp := now, origin := origin
                          bypass := 0, joinNumber := b.nextJoin })
    ∧ (b.join now c cfg origin).records = b.records ∧ (b.join now c cfg origin).claims = b.claims
    ∧ (b.join now c cfg origin).settings = b.settings ∧ (b.join now c cfg origin).scanDue = true := by
  refine ⟨?_, rfl, rfl, rfl, rfl⟩
  unfold Budget.join
  dsimp only
  split
  · rw [mem_insertHead]; tauto
  · rw [mem_insertTail]; tauto

/-- A scan changes the records, the queue, the claims and the grants in transit, and nothing else (R34, R35). -/
def Budget.ScanFrame (b t : Budget) : Prop :=
  t = { b with records := t.records, queue := t.queue, claims := t.claims, grants := t.grants, scanDue := t.scanDue }

theorem Budget.ScanFrame.trans {b t u : Budget} (h : b.ScanFrame t) (k : t.ScanFrame u) : b.ScanFrame u := by
  unfold Budget.ScanFrame at *
  rw [h] at k
  exact k

theorem Budget.serveClaims_frame (now : Nat) (l : List Claim) : b.ScanFrame (Budget.serveClaims now l b) := by
  induction l generalizing b with
  | nil => rfl
  | cons x rest ih =>
    unfold Budget.serveClaims
    split
    · exact Budget.ScanFrame.trans (t := b.grantClaim now x rest) rfl (ih _)
    · rfl

theorem Budget.walks_frame (now n : Nat) : b.ScanFrame (Budget.walks now n b) := by
  induction n generalizing b with
  | zero => rfl
  | succ n ih =>
    unfold Budget.walks
    split
    · split
      · next e rest _ => exact Budget.ScanFrame.trans (t := b.grantEntry now e rest) rfl (ih _)
      · rfl
    · rfl

theorem Budget.scan_frame (now : Nat) : b.ScanFrame (b.scan now) := by
  unfold Budget.scan
  split
  · exact (b.serveClaims_frame now b.claims).trans (Budget.walks_frame _ now _)
  · rfl

theorem Budget.runScan_frame (now : Nat) : b.ScanFrame (b.runScan now) := by
  unfold Budget.runScan
  split
  · exact (b.scan_frame now).trans rfl
  · rfl

/-- While the bus is not good a scan grants nothing (R34). -/
theorem Budget.runScan_notGood (now : Nat) (h : b.busGood = false) : b.runScan now = { b with scanDue := false } := by
  unfold Budget.runScan
  split
  · simp [Budget.scan, h]
  · next h' =>
    have : b.scanDue = false := by simpa using h'
    rw [← this]

/-- One walk grants an entry of the queue that fits the headroom, and takes that entry out (R35). -/
theorem walkQueue_some {shed : Level} {headroom limit : Nat} {q rest : List Waiting} {e : Waiting}
    (h : walkQueue shed headroom limit q = some (e, rest)) :
    e ∈ q ∧ e.allowance ≤ headroom ∧ rest.length + 1 = q.length := by
  induction q generalizing rest with
  | nil => simp [walkQueue] at h
  | cons x xs ih =>
    unfold walkQueue at h
    split at h
    · obtain ⟨⟨e', r'⟩, hw, hx⟩ := Option.map_eq_some_iff.1 h
      cases hx
      obtain ⟨h1, h2, h3⟩ := ih hw
      exact ⟨List.mem_cons_of_mem _ h1, h2, by simp; omega⟩
    · split at h
      · next h2 =>
        cases h
        exact ⟨by simp, h2, by simp⟩
      · split at h
        · obtain ⟨⟨e', r'⟩, hw, hx⟩ := Option.map_eq_some_iff.1 h
          cases hx
          obtain ⟨h1, h2, h3⟩ := ih hw
          exact ⟨List.mem_cons_of_mem _ h1, h2, by simp; omega⟩
        · cases h

/-- What shed rank chooses is a held record and a candidate (R39). -/
theorem rankFrom_some {records : PerChan (Option Reservation)} {p : Reservation → Bool} {cs : List Chan}
    {best : Option (Chan × Reservation)} {c : Chan} {r : Reservation} (h : rankFrom records p cs best = some (c, r)) :
    best = some (c, r) ∨ (records.get c = some r ∧ p r = true) := by
  induction cs generalizing best with
  | nil => exact .inl h
  | cons d rest ih =>
    unfold rankFrom at h
    split at h
    · exact ih h
    · next q hq =>
      split at h
      · next hp =>
        split at h
        · rcases ih h with h' | h'
          · cases h'
            exact .inr ⟨hq, hp⟩
          · exact .inr h'
        · rcases ih h with h' | h'
          · split at h'
            · cases h'
              exact .inr ⟨hq, hp⟩
            · exact .inl h'
          · exact .inr h'
      · exact ih h

theorem Budget.firstInRank_some {p : Reservation → Bool} {c : Chan} {r : Reservation}
    (h : b.firstInRank p = some (c, r)) : b.records.get c = some r ∧ p r = true :=
  (rankFrom_some h).resolve_left (by simp)

/-- Several channels give up all they hold with the Budget Manager (R32, R33, R36, R38). -/
theorem Budget.drops_spec (cs : List Chan) (h : cs.Nodup) (b : Budget) :
    cs.foldl Budget.drop b =
      { b with
        records := PerChan.ofFn fun c => if c ∈ cs then none else b.records.get c
        claims := b.claims.filter fun x => !cs.contains x.chan
        queue := b.queue.filter fun x => !cs.contains x.chan
        scanDue := b.scanDue || cs.any fun c => (b.records.get c).isSome || b.hasEntry c } := by
  induction cs generalizing b with
  | nil => simp
  | cons d rest ih =>
    obtain ⟨hd, hr⟩ := List.nodup_cons.1 h
    have hother : ∀ c ∈ rest, c ≠ d := fun c hc hcd => hd (hcd ▸ hc)
    rw [List.foldl_cons, ih hr]
    have hany : (rest.any fun c => ((b.drop d).records.get c).isSome || (b.drop d).hasEntry c)
        = rest.any fun c => (b.records.get c).isSome || b.hasEntry c := by
      rw [Bool.eq_iff_iff]
      simp only [List.any_eq_true]
      refine exists_congr fun c => and_congr_right fun hc => ?_
      have h1 : (b.drop d).records.get c = b.records.get c := PerChan.get_set_ne _ _ (hother c hc)
      have h2 : (b.drop d).hasEntry c = b.hasEntry c := by
        unfold Budget.hasEntry Budget.drop
        rw [List.any_filter]
        congr 1
        funext e
        by_cases hec : e.chan = c <;> simp [hec, hother c hc]
      rw [h1, h2]
    rw [hany]
    simp only [Budget.drop, List.filter_filter, List.any_cons, Budget.mk.injEq, true_and]
    refine ⟨?_, ?_, ?_, ?_⟩
    · ext1 c
      by_cases hc : c = d
      · subst hc; simp
      · by_cases hm : c ∈ rest <;> simp [hc, hm, PerChan.get_set_ne]
    · congr 1; funext x; by_cases hx : x.chan = d <;> simp [hx, bne]
    · congr 1; funext x; by_cases hx : x.chan = d <;> simp [hx, bne]
    · simp only [Bool.or_assoc]

end Sys2Proof.Machine
end

