-- ==== Sys2Proof/Laws/Frames.lean ====
section
/-! SUPPORT. Which parts of the state each shared operation may change (OnlyChanges of Safety.lean): the rules of a frame, and one
lemma for each operation. -/

namespace Sys2Proof.Machine

theorem Same.refl (s : State) (p : Part) : Same s s p := by cases p <;> rfl

theorem Same.trans {s t u : State} {p : Part} (h : Same s t p) (k : Same t u p) : Same s u p := by
  cases p <;> exact Eq.trans k h

theorem OnlyChanges.refl (parts : List Part) (s : State) : OnlyChanges parts s s := fun p _ => Same.refl s p

theorem OnlyChanges.trans {parts : List Part} {s t u : State} (h : OnlyChanges parts s t) (k : OnlyChanges parts t u) :
    OnlyChanges parts s u := fun p hp => (h p hp).trans (k p hp)

theorem OnlyChanges.mono {small big : List Part} {s t : State} (h : OnlyChanges small s t) (k : ∀ p ∈ small, p ∈ big) :
    OnlyChanges big s t := fun p hp => h p fun hs => hp (k p hs)

/-- Two frames one after the other. -/
theorem OnlyChanges.append {p q : List Part} {s t u : State} (h : OnlyChanges p s t) (k : OnlyChanges q t u) :
    OnlyChanges (p ++ q) s u :=
  (h.mono fun _ hx => List.mem_append_left _ hx).trans (k.mono fun _ hx => List.mem_append_right _ hx)

/-- A frame is the equality of the parts it leaves out, one by one. -/
theorem onlyChanges_iff (parts : List Part) (s t : State) :
    OnlyChanges parts s t ↔
      (Part.powered ∈ parts ∨ t.powered = s.powered) ∧ (Part.uptime ∈ parts ∨ t.uptime = s.uptime)
      ∧ (Part.within ∈ parts ∨ t.within = s.within) ∧ (Part.draws ∈ parts ∨ t.draws = s.draws)
      ∧ (Part.pins ∈ parts ∨ t.pins = s.pins) ∧ (∀ c, Part.chan c ∈ parts ∨ t.chan c = s.chan c)
      ∧ (Part.budget ∈ parts ∨ t.budget = s.budget) ∧ (Part.sampler ∈ parts ∨ t.sampler = s.sampler)
      ∧ (Part.deliveries ∈ parts ∨ t.deliveries = s.deliveries) ∧ (Part.watches ∈ parts ∨ t.watches = s.watches)
      ∧ (Part.meter ∈ parts ∨ t.meter = s.meter) ∧ (Part.schedule ∈ parts ∨ t.schedule = s.schedule)
      ∧ (Part.profile ∈ parts ∨ t.profile = s.profile) ∧ (Part.link ∈ parts ∨ t.link = s.link)
      ∧ (Part.notices ∈ parts ∨ t.notices = s.notices) ∧ (Part.pending ∈ parts ∨ t.pending = s.pending) := by
  constructor
  · intro h
    exact ⟨Classical.or_iff_not_imp_left.2 (h .powered), Classical.or_iff_not_imp_left.2 (h .uptime),
      Classical.or_iff_not_imp_left.2 (h .within), Classical.or_iff_not_imp_left.2 (h .draws),
      Classical.or_iff_not_imp_left.2 (h .pins), fun c => Classical.or_iff_not_imp_left.2 (h (.chan c)),
      Classical.or_iff_not_imp_left.2 (h .budget), Classical.or_iff_not_imp_left.2 (h .sampler),
      Classical.or_iff_not_imp_left.2 (h .deliveries), Classical.or_iff_not_imp_left.2 (h .watches),
      Classical.or_iff_not_imp_left.2 (h .meter), Classical.or_iff_not_imp_left.2 (h .schedule),
      Classical.or_iff_not_imp_left.2 (h .profile), Classical.or_iff_not_imp_left.2 (h .link),
      Classical.or_iff_not_imp_left.2 (h .notices), Classical.or_iff_not_imp_left.2 (h .pending)⟩
  · rintro ⟨h1, h2, h3, h4, h5, h6, h7, h8, h9, h10, h11, h12, h13, h14, h15, h16⟩ p hp
    cases p with
    | powered => exact h1.resolve_left hp
    | uptime => exact h2.resolve_left hp
    | within => exact h3.resolve_left hp
    | draws => exact h4.resolve_left hp
    | pins => exact h5.resolve_left hp
    | chan c => exact (h6 c).resolve_left hp
    | budget => exact h7.resolve_left hp
    | sampler => exact h8.resolve_left hp
    | deliveries => exact h9.resolve_left hp
    | watches => exact h10.resolve_left hp
    | meter => exact h11.resolve_left hp
    | schedule => exact h12.resolve_left hp
    | profile => exact h13.resolve_left hp
    | link => exact h14.resolve_left hp
    | notices => exact h15.resolve_left hp
    | pending => exact h16.resolve_left hp

variable (s : State)

/-! The updates of one part. -/

theorem State.onChan_only (c : Chan) (f : Channel → Channel) : OnlyChanges [.chan c] s (s.onChan c f) := by
  rintro (_ | _ | _ | _ | _ | d | _ | _ | _ | _ | _ | _ | _ | _ | _ | _) hp <;> try rfl
  exact PerChan.get_update_ne _ _ (by simpa using hp)

theorem State.onBudget_only (f : Budget → Budget) : OnlyChanges [.budget] s (s.onBudget f) := by
  rintro (_ | _ | _ | _ | _ | d | _ | _ | _ | _ | _ | _ | _ | _ | _ | _) hp <;> first | rfl | simp at hp

theorem State.onProfile_only (f : Profile → Profile) : OnlyChanges [.profile] s (s.onProfile f) := by
  rintro (_ | _ | _ | _ | _ | d | _ | _ | _ | _ | _ | _ | _ | _ | _ | _) hp <;> first | rfl | simp at hp

theorem State.onLink_only (f : Link → Link) : OnlyChanges [.link] s (s.onLink f) := by
  rintro (_ | _ | _ | _ | _ | d | _ | _ | _ | _ | _ | _ | _ | _ | _ | _) hp <;> first | rfl | simp at hp

theorem State.onNotices_only (f : Notices → Notices) : OnlyChanges [.notices] s (s.onNotices f) := by
  rintro (_ | _ | _ | _ | _ | d | _ | _ | _ | _ | _ | _ | _ | _ | _ | _) hp <;> first | rfl | simp at hp

theorem State.afterBoundary_only : OnlyChanges [.within] s s.afterBoundary := by
  rintro (_ | _ | _ | _ | _ | d | _ | _ | _ | _ | _ | _ | _ | _ | _ | _) hp <;> first | rfl | simp at hp

theorem State.setWatch_only (n : Nat) (w : Option Watch) : OnlyChanges [.watches] s (s.setWatch n w) := by
  rintro (_ | _ | _ | _ | _ | d | _ | _ | _ | _ | _ | _ | _ | _ | _ | _) hp <;> first | rfl | simp at hp

theorem State.markUnsaved_only : OnlyChanges [.profile] s s.markUnsaved := s.onProfile_only _

theorem State.post_only (chan : Option Chan) (body : NoticeBody) : OnlyChanges [.notices] s (s.post chan body) :=
  s.onNotices_only _

theorem State.postAll_only (l : List (Option Chan × NoticeBody)) : OnlyChanges [.notices] s (s.postAll l) := by
  induction l generalizing s with
  | nil => exact .refl _ _
  | cons x rest ih => exact (s.post_only x.1 x.2).trans (ih _)

theorem State.postSheds_only (l : List (Chan × NoticeBody)) : OnlyChanges [.notices] s (s.postSheds l) := s.postAll_only _

theorem State.runScan_only : OnlyChanges [.budget] s s.runScan := s.onBudget_only _

/-! The end of an event. -/

theorem State.startNotice_only (n : Notice) : OnlyChanges [.link, .notices] s (s.startNotice n) :=
  ((s.onNotices_only _).append (State.onLink_only _ _)).mono (by simp)

theorem State.startReply_only : OnlyChanges [.link] s s.startReply := s.onLink_only _

/-- The arbiter changes the link, the notice queue and the counter of free values, and nothing else (R150). -/
theorem State.arbitrate_only : OnlyChanges [.link, .notices, .draws] s s.arbitrate := by
  unfold State.arbitrate
  split
  · exact s.startReply_only.mono (by simp)
  · exact (s.startNotice_only _).mono (by simp)
  · have h : OnlyChanges [.draws] s { s with draws := s.draws + 1 } := by
      rintro (_ | _ | _ | _ | _ | d | _ | _ | _ | _ | _ | _ | _ | _ | _ | _) hp <;> first | rfl | simp at hp
    dsimp only
    split
    · exact (h.append (State.startReply_only _)).mono (by simp)
    · exact (h.append (State.startNotice_only _ _)).mono (by simp)
  · exact .refl _ _

/-- The arbiter's choice when a frame has left changes the link and the notice queue (R150). -/
theorem State.nextFrame_only : OnlyChanges [.link, .notices] s s.nextFrame := by
  unfold State.nextFrame
  split
  · exact s.startReply_only.mono (by simp)
  · exact s.startNotice_only _
  · exact .refl _ _

/-- The end of an event: the scan and the arbiter's choice. -/
theorem State.settle_only : OnlyChanges eventEnd s s.settle :=
  (s.runScan_only.append (State.arbitrate_only _)).mono (by simp [eventEnd])

/-- An answer to an entry, with the end of its event. -/
theorem State.reply_only (e : ReqEntry) (a : Answer) : OnlyChanges eventEnd s (s.reply e a) :=
  ((s.onLink_only _).append (State.settle_only _)).mono (by simp [eventEnd])

/-- The snapshot stamp as reported takes at most a free value (R102). -/
theorem State.reportSnapshot_only : OnlyChanges [.draws] s s.reportSnapshot.1 := by
  unfold State.reportSnapshot
  split
  · exact .refl _ _
  · rintro (_ | _ | _ | _ | _ | d | _ | _ | _ | _ | _ | _ | _ | _ | _ | _) hp <;> first | rfl | simp at hp

theorem State.endSession_only : OnlyChanges [.notices, .link] s s.endSession :=
  (s.onNotices_only _).append (State.onLink_only _ _)

theorem State.linkRestart_only : OnlyChanges [.link, .notices] s s.linkRestart := by
  unfold State.linkRestart
  dsimp only
  split
  · exact ((s.onLink_only _).append (State.endSession_only _)).mono (by simp)
  · exact (s.onLink_only _).mono (by simp)

/-! The operations on a channel. -/

theorem State.leave_only (c : Chan) (entered : ChState) (reason : OffReason) :
    OnlyChanges [.chan c, .budget] s (s.leave c entered reason) := (s.onChan_only c _).append (State.onBudget_only _ _)

theorem State.postChange_only (c : Chan) (left : ChState) (cause : ChangeCause) :
    OnlyChanges [.notices] s (s.postChange c left cause) := s.post_only _ _

theorem State.joinQueue_only (c : Chan) (origin : Origin) : OnlyChanges [.chan c, .budget] s (s.joinQueue c origin) :=
  (s.onChan_only c _).append (State.onBudget_only _ _)

theorem State.requestOn_only (c : Chan) (origin : Origin) : OnlyChanges [.chan c, .budget] s (s.requestOn c origin).1 := by
  unfold State.requestOn
  repeat' split
  all_goals first | exact .refl _ _ | exact s.joinQueue_only c origin

theorem State.requestOff_only (c : Chan) (origin : Origin) : OnlyChanges [.chan c, .budget] s (s.requestOff c origin).1 := by
  unfold State.requestOff
  split <;> first | exact .refl _ _ | exact s.leave_only c _ _

theorem State.enterCycleOff_only (c : Chan) : OnlyChanges [.chan c, .budget] s (s.enterCycleOff c) :=
  (s.onChan_only c _).append (State.onBudget_only _ _)

theorem State.requestCycleHost_only (c : Chan) (request : Nat) :
    OnlyChanges [.chan c] s (s.requestCycleHost c request).1 := by
  unfold State.requestCycleHost
  split <;> first | exact .refl _ _ | exact s.onChan_only c _

theorem State.requestCycleSchedule_only (c : Chan) : OnlyChanges [.chan c, .budget] s (s.requestCycleSchedule c).1 := by
  unfold State.requestCycleSchedule
  split <;> first | exact .refl _ _ | exact s.enterCycleOff_only c

theorem State.requestClear_only (c : Chan) : OnlyChanges [.chan c] s (s.requestClear c).1 := by
  unfold State.requestClear
  split <;> first | exact .refl _ _ | exact s.onChan_only c _

theorem State.enterStarting_only (c : Chan) (cause : ChangeCause) :
    OnlyChanges [.chan c, .budget, .notices] s (s.enterStarting c cause) :=
  (((s.onChan_only c _).append (State.onBudget_only _ _)).append (State.postChange_only _ _ _ _)).mono (by simp)

theorem State.enterOn_only (c : Chan) : OnlyChanges [.chan c, .budget, .notices] s (s.enterOn c) :=
  (((s.onChan_only c _).append (State.onBudget_only _ _)).append (State.postChange_only _ _ _ _)).mono (by simp)

theorem State.faulted_only (c : Chan) (reason : OffReason) : OnlyChanges [.chan c, .budget] s (s.faulted c reason) := by
  unfold State.faulted
  split
  all_goals exact ((s.leave_only c _ _).append (State.onChan_only _ c _)).mono (by simp)

theorem State.postExhausted_only (c : Chan) (fault : FaultKind) (left : ChState) :
    OnlyChanges [.notices] s (s.postExhausted c fault left) := by
  unfold State.postExhausted
  split <;> first | exact .refl _ _ | exact s.post_only _ _

theorem State.tripped_only (c : Chan) : OnlyChanges [.chan c, .budget, .notices] s (s.tripped c) :=
  (((s.faulted_only c _).append (State.post_only _ _ _)).append (State.postExhausted_only _ _ _ _)).mono (by simp)

theorem State.startFailed_only (c : Chan) : OnlyChanges [.chan c, .budget, .notices] s (s.startFailed c) :=
  (((s.faulted_only c _).append (State.post_only _ _ _)).append (State.postExhausted_only _ _ _ _)).mono (by simp)

theorem State.latchAction_only (c : Chan) (record : Nat) :
    OnlyChanges [.chan c, .budget, .notices] s (s.latchAction c record).1 := by
  unfold State.latchAction
  split
  all_goals first
    | exact .refl _ _
    | exact ((s.leave_only c _ _).append (State.post_only _ _ _)).mono (by simp)

theorem State.shedChannel_only (c : Chan) (cause : ShedCause) :
    OnlyChanges [.chan c, .budget] s (s.shedChannel c cause) := by
  unfold State.shedChannel
  dsimp only
  split
  · exact (s.leave_only c _ _).trans (State.joinQueue_only _ c _)
  · exact s.leave_only c _ _

/-- The parts that an operation over several channels may change. -/
theorem chan_mem_parts (c : Chan) (rest : List Part) : Part.chan c ∈ rest ++ Chan.all.map Part.chan :=
  List.mem_append_right _ (List.mem_map_of_mem (Chan.mem_all c))

theorem State.shedWhile_only (cause : ShedCause) (candidate : Reservation → Bool) (more : Budget → Bool) (n : Nat) :
    OnlyChanges ([.budget] ++ Chan.all.map Part.chan) s (State.shedWhile cause candidate more n s).1 := by
  induction n generalizing s with
  | zero => exact .refl _ _
  | succ n ih =>
    unfold State.shedWhile
    split
    · split
      · exact .refl _ _
      · next c r _ =>
        refine OnlyChanges.trans ((s.shedChannel_only c cause).mono ?_) (ih _)
        intro p hp
        rcases List.mem_pair.1 hp with rfl | rfl
        · exact chan_mem_parts _ _
        · simp
    · exact .refl _ _

theorem State.removeEntries_only (cs : List Chan) :
    OnlyChanges ([.budget, .notices] ++ Chan.all.map Part.chan) s (s.removeEntries cs) := by
  induction cs generalizing s with
  | nil => exact .refl _ _
  | cons c rest ih =>
    refine OnlyChanges.trans (t := s.removeEntry c) ?_ (ih _)
    refine ((s.leave_only c _ _).append (State.postChange_only _ _ _ _)).mono fun p hp => ?_
    simp only [List.mem_append, List.mem_cons, List.not_mem_nil, or_false] at hp
    rcases hp with (rfl | rfl) | rfl
    · exact chan_mem_parts _ _
    · simp
    · simp

theorem State.hostLossOff_only (cs : List Chan) :
    OnlyChanges ([.budget] ++ Chan.all.map Part.chan) s (s.hostLossOff cs) := by
  induction cs generalizing s with
  | nil => exact .refl _ _
  | cons c rest ih =>
    refine OnlyChanges.trans ((s.requestOff_only c _).mono fun p hp => ?_) (ih _)
    rcases List.mem_pair.1 hp with rfl | rfl
    · exact chan_mem_parts _ _
    · simp

theorem State.startJoins_only (origin : Origin) (cs : List Chan) :
    OnlyChanges ([.budget] ++ Chan.all.map Part.chan) s (State.startJoins origin cs s).1 := by
  induction cs generalizing s with
  | nil => exact .refl _ _
  | cons c rest ih =>
    unfold State.startJoins
    split
    · refine OnlyChanges.trans ((s.joinQueue_only c _).mono fun p hp => ?_) (ih _)
      rcases List.mem_pair.1 hp with rfl | rfl
      · exact chan_mem_parts _ _
      · simp
    · refine OnlyChanges.trans ((s.onChan_only c _).mono fun p hp => ?_) (ih _)
      rw [List.mem_singleton.1 hp]
      exact chan_mem_parts _ _

/-! Watches and the schedule. -/

theorem State.watchAction_only (n : Nat) (action : WatchAction) :
    OnlyChanges ([.budget, .notices] ++ Chan.all.map Part.chan) s (s.watchAction n action).1 := by
  cases action with
  | notify => exact .refl _ _
  | switchOff c =>
    refine ((s.requestOff_only c _).append (State.runScan_only _)).mono fun p hp => ?_
    simp only [List.mem_append, List.mem_cons, List.not_mem_nil, or_false] at hp
    rcases hp with (rfl | rfl) | rfl
    · exact chan_mem_parts _ _
    · simp
    · simp
  | latch c =>
    refine ((s.latchAction_only c _).append (State.runScan_only _)).mono fun p hp => ?_
    simp only [List.mem_append, List.mem_cons, List.not_mem_nil, or_false] at hp
    rcases hp with (rfl | rfl | rfl) | rfl
    · exact chan_mem_parts _ _
    · simp
    · simp
    · simp

/-- One watch record takes a round: the record, and what its action does (R86 to R90). -/
theorem State.watchRecord_only (r : Round) (n : Nat) :
    OnlyChanges ([.watches, .budget, .notices] ++ Chan.all.map Part.chan) s (s.watchRecord r n) := by
  have hset (w : Option Watch) : OnlyChanges ([.watches, .budget, .notices] ++ Chan.all.map Part.chan) s (s.setWatch n w) :=
    (s.setWatch_only n w).mono (by simp)
  unfold State.watchRecord
  split
  · exact .refl _ _
  · next w _ =>
    dsimp only
    split
    · unfold State.judgeWatch
      split
      · refine (((State.setWatch_only _ _ _).append (State.watchAction_only _ _ _)).append (State.post_only _ _ _)).mono ?_
        simp
        tauto
      · unfold State.watchFall
        dsimp only
        split
        · exact ((State.setWatch_only _ _ _).append (State.post_only _ _ _)).mono (by simp)
        · exact hset _
      · exact hset _
    · exact hset _

theorem State.watchRecords_only (r : Round) (ns : List Nat) :
    OnlyChanges ([.watches, .budget, .notices] ++ Chan.all.map Part.chan) s (s.watchRecords r ns) := by
  induction ns generalizing s with
  | nil => exact .refl _ _
  | cons n rest ih => exact (s.watchRecord_only r n).trans (ih _)

theorem State.fire_only (e : SchedEntry) (rest : List SchedEntry) :
    OnlyChanges [.chan e.chan, .budget, .schedule, .notices] s (s.fire e rest) := by
  have h : OnlyChanges [.chan e.chan, .budget] s (s.scheduleRequest e).1 := by
    unfold State.scheduleRequest
    split
    · exact s.requestOn_only _ _
    · exact s.requestOff_only _ _
    · exact s.requestCycleSchedule_only _
  have k (t : State) (l : List SchedEntry) : OnlyChanges [.schedule] t { t with schedule := l } := by
    rintro (_ | _ | _ | _ | _ | d | _ | _ | _ | _ | _ | _ | _ | _ | _ | _) hp <;> first | rfl | simp at hp
  exact (((h.append (State.runScan_only _)).append (k _ _)).append (State.post_only _ _ _)).mono (by simp)

theorem State.firePass_only (n : Nat) :
    OnlyChanges ([.budget, .schedule, .notices] ++ Chan.all.map Part.chan) s (State.firePass n s) := by
  induction n generalizing s with
  | zero => exact .refl _ _
  | succ n ih =>
    unfold State.firePass
    split
    · exact .refl _ _
    · next e rest _ =>
      split
      · refine OnlyChanges.trans ((s.fire_only e rest).mono fun p hp => ?_) (ih _)
        simp only [List.mem_cons, List.not_mem_nil, or_false] at hp
        rcases hp with rfl | rfl | rfl | rfl
        · exact chan_mem_parts _ _
        all_goals simp
      · exact .refl _ _

end Sys2Proof.Machine
end

