-- ==== Sys2Proof/Laws/Notices.lean ====
section
/-! SUPPORT. What each operation of the Notice Unit can do: offering keeps everything of a notice but its delivery, and a posted
notice leaves the session alone. -/

namespace Sys2Proof.Machine

/-- Offering changes a notice's delivery state and its waiting frame only (R166). -/
theorem offerUnsent_map {α : Type} (f : Notice → α)
    (h : ∀ (n : Notice) (d : Delivery) (w : Bool), f { n with delivery := d, frameWaiting := w } = f n) (k : Nat)
    (q : List Notice) : (offerUnsent k q).map f = q.map f := by
  induction q generalizing k with
  | nil => cases k <;> rfl
  | cons n rest ih =>
    unfold offerUnsent
    split
    · cases k with
      | zero => rfl
      | succ k => simp [h, ih]
    · simp [ih]

@[simp] theorem offerUnsent_length (k : Nat) (q : List Notice) : (offerUnsent k q).length = q.length := by
  have := congrArg List.length (offerUnsent_map (fun _ => ()) (fun _ _ _ => rfl) k q)
  simpa using this

@[simp] theorem offerUnsent_zero (q : List Notice) : offerUnsent 0 q = q := by
  induction q with
  | nil => rfl
  | cons n rest ih =>
    unfold offerUnsent
    split
    · rfl
    · rw [ih]

/-- An urgent notice is in the queue before an offer exactly when it is after it, so an offer does not act on ATTN (R170). -/
@[simp] theorem attnLevel_offerUnsent (k : Nat) (q : List Notice) : attnLevel (offerUnsent k q) = attnLevel q := by
  have h := offerUnsent_map (·.cls) (fun _ _ _ => rfl) k q
  have (l : List Notice) : (l.any fun n => n.cls == .urgent) = (l.map (·.cls)).any (· == .urgent) := by
    rw [List.any_map]; rfl
  simp [attnLevel, this, h]

theorem attnLevel_asserted (q : List Notice) : attnLevel q = .asserted ↔ ∃ n ∈ q, n.cls = .urgent := by
  unfold attnLevel
  split
  · next h => simpa using h
  · next h => simpa using h

variable (u : Notices)

/-- Filling the window changes the queue only, and there the delivery of notices only. -/
theorem Notices.fillWindow_eq : u.fillWindow = { u with queue := u.fillWindow.queue } := by
  unfold Notices.fillWindow
  split <;> rfl

@[simp] theorem Notices.fillWindow_length : u.fillWindow.queue.length = u.queue.length := by
  unfold Notices.fillWindow
  split <;> simp

@[simp] theorem Notices.fillWindow_attnLevel : attnLevel u.fillWindow.queue = attnLevel u.queue := by
  unfold Notices.fillWindow
  split <;> simp

/-- A posted notice changes the queue, the next NSEQ, the pending lost count and ATTN, and nothing else (R163, R165). -/
theorem Notices.post_frame (now : Nat) (chan : Option Chan) (body : NoticeBody) :
    let v := u.post now chan body
    v = { u with queue := v.queue, nextNseq := v.nextNseq, lost := v.lost, attn := v.attn } := by
  unfold Notices.post Notices.meetQueue Notices.fillWindow
  repeat' split
  all_goals rfl

/-- A kind that is not subscribed leaves no trace (R163). -/
theorem Notices.post_unsubscribed (now : Nat) (chan : Option Chan) (body : NoticeBody)
    (h : u.subscriptions.getLsbD body.kind.index = false) : u.post now chan body = u := by
  simp [Notices.post, h]

end Sys2Proof.Machine
end

