-- ==== Sys2Proof/Laws/Operations.lean ====
section
/-! SUPPORT. What each shared operation on a channel, on the schedule list and on the transmitter leaves: one lemma for each. -/

namespace Sys2Proof.Machine
variable (s : State)

/-- A channel that leaves: its power, timer and cycle are ended, and it gives up all it holds with the Budget Manager (R5). -/
theorem State.leave_spec (c : Chan) (entered : ChState) (reason : OffReason) :
    (s.leave c entered reason).chan c = { (s.chan c).quiesce with state := entered, lastOff := reason }
    ∧ (s.leave c entered reason).budget = s.budget.drop c
    ∧ ∀ d, d ≠ c → (s.leave c entered reason).chan d = s.chan d :=
  ⟨State.onChan_chan_self .., rfl, fun _ h => State.onChan_chan_ne _ _ h⟩

/-- A join: the channel is QUEUED under the next join number, with its entry in the queue (R31). -/
theorem State.joinQueue_spec (c : Chan) (origin : Origin) :
    (s.joinQueue c origin).chan c = { s.chan c with state := .queued, joinNumber := s.budget.nextJoin }
    ∧ (s.joinQueue c origin).budget = s.budget.join s.uptime c (s.chan c).cfg origin
    ∧ ∀ d, d ≠ c → (s.joinQueue c origin).chan d = s.chan d :=
  ⟨State.onChan_chan_self .., rfl, fun _ h => State.onChan_chan_ne _ _ h⟩

/-- A shed: the channel is off with the reason of the cause, and queued again only under after-shed REQUEUE and the limit
(R40, R41). -/
theorem State.shedChannel_spec (c : Chan) (cause : ShedCause) :
    let t := s.shedChannel c cause
    (t.chan c).gate = .off ∧ (t.chan c).lastOff = shedReason cause ∧ (t.chan c).timer = .none
    ∧ (t.chan c).cfg = (s.chan c).cfg ∧ (t.chan c).tripTotal = (s.chan c).tripTotal
    ∧ (t.chan c).state =
        (if (s.chan c).cfg.afterShed = .requeue ∧ (s.chan c).cfg.allowance ≤ s.budget.settings.limit then .queued else .off)
    ∧ t.budget.records = s.budget.records.set c none ∧ t.budget.settings = s.budget.settings
    ∧ ∀ d, d ≠ c → t.chan d = s.chan d := by
  intro t
  obtain ⟨h1, h2, h3⟩ := s.leave_spec c .off (shedReason cause)
  by_cases h : (s.chan c).cfg.afterShed = .requeue ∧ (s.chan c).cfg.allowance ≤ s.budget.settings.limit
  · have ht : t = (s.leave c .off (shedReason cause)).joinQueue c .requeue := if_pos h
    obtain ⟨k1, k2, k3⟩ := (s.leave c .off (shedReason cause)).joinQueue_spec c .requeue
    rw [ht, if_pos h, k1, k2, h1]
    refine ⟨rfl, rfl, rfl, rfl, rfl, rfl, ?_, ?_, fun d hd => (k3 d hd).trans (h3 d hd)⟩
    · rw [h2]; rfl
    · rw [h2]; rfl
  · have ht : t = s.leave c .off (shedReason cause) := if_neg h
    rw [ht, if_neg h, h1, h2]
    exact ⟨rfl, rfl, rfl, rfl, rfl, rfl, rfl, rfl, h3⟩

/-- A fault: COOLDOWN with its timer while retries are left, else LATCHED; either counts in the trip total (R56, R57, R66). -/
theorem State.faulted_spec (c : Chan) (reason : OffReason) :
    let k := s.chan c
    (s.faulted c reason).budget = s.budget.drop c
    ∧ (s.faulted c reason).chan c =
        { k.quiesce with
          state := if k.retryCount < k.cfg.retryLimit then .cooldown else .latched
          lastOff := reason
          tripTotal := satAdd 65535 k.tripTotal 1
          retryCount := if k.retryCount < k.cfg.retryLimit then k.retryCount + 1 else k.retryCount
          timer := if k.retryCount < k.cfg.retryLimit then .cooldown (s.deadline k.cfg.cooldown) else .none } := by
  unfold State.faulted
  dsimp only
  split
  · exact ⟨rfl, by rw [State.onChan_chan_self, (s.leave_spec c .cooldown reason).1]; rfl⟩
  · exact ⟨rfl, by rw [State.onChan_chan_self, (s.leave_spec c .latched reason).1]; rfl⟩

/-- What an OFF request does: it is refused with nothing changed, or the channel leaves for OFF (R9). -/
theorem State.requestOff_cases (c : Chan) (origin : Origin) :
    ((s.requestOff c origin).1 = s
      ∧ ((s.chan c).state = .off ∨ (s.chan c).state = .latched ∨ (s.chan c).state = .disabled))
    ∨ (s.requestOff c origin = (s.leave c .off (offReasonOf origin), .ok)
      ∧ (s.chan c).state ≠ .off ∧ (s.chan c).state ≠ .latched ∧ (s.chan c).state ≠ .disabled) := by
  unfold State.requestOff
  cases (s.chan c).state <;> simp

/-- The OFF requests of a host loss to channels that can obey them (R160 step 2). -/
theorem State.hostLossOff_spec (cs : List Chan) (h : cs.Nodup)
    (hs : ∀ c ∈ cs, (s.chan c).state ≠ .off ∧ (s.chan c).state ≠ .latched ∧ (s.chan c).state ≠ .disabled) :
    OnlyChanges (.budget :: cs.map Part.chan) s (s.hostLossOff cs)
    ∧ (∀ c ∈ cs, (s.hostLossOff cs).chan c = { (s.chan c).quiesce with state := .off, lastOff := .hostLoss })
    ∧ (s.hostLossOff cs).budget = cs.foldl Budget.drop s.budget := by
  induction cs generalizing s with
  | nil => exact ⟨.refl _ _, by simp, rfl⟩
  | cons d rest ih =>
    obtain ⟨hd, hr⟩ := List.nodup_cons.1 h
    have hleave : (s.requestOff d .session).1 = s.leave d .off .hostLoss := by
      obtain ⟨h1, h2, h3⟩ := hs d (by simp)
      rcases s.requestOff_cases d .session with ⟨-, h⟩ | ⟨h, -⟩
      · tauto
      · rw [h]; rfl
    obtain ⟨l1, l2, l3⟩ := s.leave_spec d .off .hostLoss
    have hother : ∀ c ∈ rest, (s.leave d .off .hostLoss).chan c = s.chan c := fun c hc => l3 c fun hcd => hd (hcd ▸ hc)
    obtain ⟨i1, i2, i3⟩ := ih (s.leave d .off .hostLoss) hr fun c hc => by
      rw [hother c hc]; exact hs c (List.mem_cons_of_mem _ hc)
    simp only [State.hostLossOff, hleave]
    refine ⟨?_, ?_, by rw [i3, l2, List.foldl_cons]⟩
    · exact ((s.leave_only d .off .hostLoss).append i1).mono (by simp; tauto)
    · intro c hc
      rcases List.mem_cons.1 hc with rfl | hc
      · rw [i1 (.chan c) (by simpa using hd), l1]
      · rw [i2 c hc, hother c hc]

/-- What an ON request does: it is refused with nothing changed, or an OFF channel joins the queue (R8). -/
theorem State.requestOn_cases (c : Chan) (origin : Origin) :
    (s.requestOn c origin).1 = s
    ∨ (s.requestOn c origin = (s.joinQueue c origin, .ok) ∧ (s.chan c).state = .off
      ∧ (s.chan c).cfg.allowance ≤ s.budget.settings.limit) := by
  by_cases h : (s.chan c).state = .off ∧ (s.chan c).cfg.allowance ≤ s.budget.settings.limit
  · obtain ⟨h1, h2⟩ := h
    exact .inr ⟨by simp [State.requestOn, h1, h2], h1, h2⟩
  · left
    unfold State.requestOn
    repeat' split
    all_goals first | rfl | exact absurd ⟨‹_›, ‹_›⟩ h

/-! The schedule list. -/

theorem mem_placeEntry (e x : SchedEntry) (l : List SchedEntry) : x ∈ placeEntry e l ↔ x = e ∨ x ∈ l := by
  have h := List.takeWhile_append_dropWhile (p := fun y : SchedEntry => decide (y.due ≤ e.due)) (l := l)
  constructor
  · intro hx
    simp only [placeEntry, List.mem_append, List.mem_cons] at hx
    rcases hx with hx | hx | hx
    · exact .inr (h ▸ List.mem_append_left _ hx)
    · exact .inl hx
    · exact .inr (h ▸ List.mem_append_right _ hx)
  · intro hx
    simp only [placeEntry, List.mem_append, List.mem_cons]
    rcases hx with hx | hx
    · exact .inr (.inl hx)
    · rw [← h] at hx
      rcases List.mem_append.1 hx with hx | hx
      · exact .inl hx
      · exact .inr (.inr hx)

@[simp] theorem placeEntry_length (e : SchedEntry) (l : List SchedEntry) : (placeEntry e l).length = l.length + 1 := by
  have h := congrArg List.length
    (List.takeWhile_append_dropWhile (p := fun y : SchedEntry => decide (y.due ≤ e.due)) (l := l))
  simp only [placeEntry, List.length_append, List.length_cons] at h ⊢
  omega

/-- A re-arm takes the due past the uptime, by the least number of periods (R115). -/
theorem rearm_due (e : SchedEntry) (t : Nat) (h : e.due ≤ t) (hp : 1 ≤ e.period) :
    t < (e.rearm t).due ∧ (e.rearm t).due ≤ t + 1000 * e.period := by
  have hq : 0 < 1000 * e.period := by omega
  have h1 := Nat.div_add_mod (t - e.due) (1000 * e.period)
  have h2 := Nat.mod_lt (t - e.due) hq
  simp only [SchedEntry.rearm, rearmCount, Nat.add_mul, Nat.one_mul]
  rw [Nat.mul_comm] at h1
  constructor <;> omega

/-! The transmitter. -/

/-- What the arbiter does at the end of an event: nothing, or the reply of the oldest entry starts, or the first offered notice
starts; in the last two the transmitter was idle (R150). -/
theorem State.arbitrate_cases :
    s.arbitrate = s
    ∨ (s.link.tx = .idle ∧ ∃ t : State, (t = s ∨ t = { s with draws := s.draws + 1 })
        ∧ ((∃ e, s.link.readyReply = some e ∧ s.arbitrate = t.startReply)
          ∨ ∃ n, s.notices.readyNotice = some n ∧ s.arbitrate = t.startNotice n)) := by
  unfold State.arbitrate
  split
  · next e h1 h2 h3 => exact .inr ⟨h1, s, .inl rfl, .inl ⟨e, h2, rfl⟩⟩
  · next n h1 h2 h3 => exact .inr ⟨h1, s, .inl rfl, .inr ⟨n, h3, rfl⟩⟩
  · next e n h1 h2 h3 =>
    dsimp only
    split
    · exact .inr ⟨h1, _, .inr rfl, .inl ⟨e, h2, rfl⟩⟩
    · exact .inr ⟨h1, _, .inr rfl, .inr ⟨n, h3, rfl⟩⟩
  · exact .inl rfl

/-- What the arbiter does when a frame has left (R150). -/
theorem State.nextFrame_cases :
    s.nextFrame = s
    ∨ (s.link.tx = .idle
      ∧ ((∃ e, s.link.readyReply = some e ∧ s.nextFrame = s.startReply)
        ∨ ∃ n, s.link.readyReply = none ∧ s.notices.readyNotice = some n ∧ s.nextFrame = s.startNotice n)) := by
  unfold State.nextFrame
  split
  · next e h1 h2 => exact .inr ⟨h1, .inl ⟨e, h2, rfl⟩⟩
  · next n h1 h2 h3 => exact .inr ⟨h1, .inr ⟨n, h2, h3, rfl⟩⟩
  · exact .inl rfl

/-- The records of a list take a round one after another (R91). -/
theorem State.watchRecords_eq_foldl (r : Round) (l : List Nat) :
    s.watchRecords r l = l.foldl (fun t n => t.watchRecord r n) s := by
  induction l generalizing s with
  | nil => rfl
  | cons n rest ih => exact ih _

end Sys2Proof.Machine
end

