-- ==== Sys2Proof/WellFormed.lean ====
section
/-! DEFINITION. Which commands are well formed: every number an operand carries lies in the range the spec gives it. -/

namespace Sys2Proof

/-- LEN bytes that abandon a frame (R140). -/
def badLen (len : Byte) : Bool := len.toNat < 2 || 250 < len.toNat

/-- A stored copy's generation is 1 to 4,294,967,295 (R124), and the profile holds 16 watch records (R123). -/
def StoredCopy.wf (k : StoredCopy) : Bool :=
  1 ≤ k.generation && k.generation < 4294967296 && k.contents.watches.length == 16

/-- What a write leaves in the storage is a well-formed copy, or none. -/
def WriteEnd.wf : WriteEnd → Bool
  | .complete => true
  | .reportedFailure none | .other none => true
  | .reportedFailure (some k) => k.wf
  | .other (some k) => k.wf

/-- The ranges of the operands: arming number (R53), join number (R30), claim number (R38), NSEQ (R164), the LEN bytes of
FRAME_ABANDON_BAD_LEN (R140), and what a write leaves in the storage (R124). -/
def Instr.wf : Instr → Bool
  | .tripEvent _ arming => arming < 256
  | .queueGrant _ join => join < 65536
  | .cycleReturnGrant _ claim => claim < 65536
  | .noticeSent nseq => nseq < 65536
  | .frameAbandonBadLen len => badLen len
  | .saveWriteEnd result => result.wf
  | .powerOn | .powerLoss | .resetLineChange _ | .resetFilterExpiry | .shedLineChange _ | .shedFilterExpiry
  | .roundComplete _ | .roundDeliveryChannel _ | .roundDeliveryBudget | .overloadHoldExpiry | .roundDeliveryWatch
  | .roundDeliveryMeter | .senseCurrentChange _ _ | .comparatorOperate _ | .startTimerExpiry _ | .retryWindowExpiry _
  | .cycleTimerExpiry _ | .cooldownExpiry _ | .replySentCycle _ _ | .replyDiscardedCycle _ _ | .restartReplySignal _ _
  | .duePass | .saveVerifyEnd | .receiveCharacterError | .gapTimerExpiry | .frameComplete _ | .validFrameSignal
  | .receiveLineChange _ | .breakTimerExpiry | .transmitFrameEnd | .ackTimerExpiry | .keepaliveExpiry | .unknownKind
  | .identify | .linkStatus | .linkConfig | .sessionOpen | .sessionClose | .ping | .noticeAck | .subscribe
  | .channelConfig | .channelQuery | .channelOn | .channelOff | .channelCycle | .channelClear | .budgetConfig
  | .budgetQuery | .measureRead | .energyRead | .peakRead | .watchSet | .watchDelete | .watchClear | .watchQuery
  | .schedAdd | .schedCancel | .schedList | .profileSave | .profileQuery | .restart | .characterReceived _ => true

end Sys2Proof
end

