-- ==== Sys2Proof/Laws/PerInstr.lean ====
section
/-! SUPPORT. The per-instruction family `Fields`: a well-formed command carries every number within the width that the spec gives
it. -/

namespace Sys2Proof.Laws.Fields

/-- The numbers that a command carries, each with the count of values that its width has: arming number 8 bits (R53), join number
16 bits (R30), claim number 16 bits (R38), NSEQ 16 bits (R164). -/
def numbers : Instr → List (Nat × Nat)
  | .tripEvent _ arming => [(arming, 2 ^ 8)]
  | .queueGrant _ join => [(join, 2 ^ 16)]
  | .cycleReturnGrant _ claim => [(claim, 2 ^ 16)]
  | .noticeSent nseq => [(nseq, 2 ^ 16)]
  | .powerOn | .powerLoss | .resetLineChange _ | .resetFilterExpiry | .shedLineChange _ | .shedFilterExpiry
  | .roundComplete _ | .roundDeliveryChannel _ | .roundDeliveryBudget | .overloadHoldExpiry | .roundDeliveryWatch
  | .roundDeliveryMeter | .senseCurrentChange _ _ | .comparatorOperate _ | .startTimerExpiry _
  | .retryWindowExpiry _ | .cycleTimerExpiry _ | .cooldownExpiry _ | .replySentCycle _ _ | .replyDiscardedCycle _ _
  | .restartReplySignal _ _ | .duePass | .saveWriteEnd _ | .saveVerifyEnd | .receiveCharacterError
  | .frameAbandonBadLen _ | .gapTimerExpiry | .frameComplete _ | .validFrameSignal | .receiveLineChange _
  | .breakTimerExpiry | .transmitFrameEnd | .ackTimerExpiry | .keepaliveExpiry | .unknownKind | .identify
  | .linkStatus | .linkConfig | .sessionOpen | .sessionClose | .ping | .noticeAck | .subscribe | .channelConfig
  | .channelQuery | .channelOn | .channelOff | .channelCycle | .channelClear | .budgetConfig | .budgetQuery
  | .measureRead | .energyRead | .peakRead | .watchSet | .watchDelete | .watchClear | .watchQuery | .schedAdd
  | .schedCancel | .schedList | .profileSave | .profileQuery | .restart | .characterReceived _ => []

/-- In a well-formed command every number lies within its width. -/
def Statement (i : Instr) : Prop := i.wf = true → ∀ x ∈ numbers i, x.1 < x.2

theorem powerOn : Statement .powerOn := fun _ _ h => nomatch h
theorem powerLoss : Statement .powerLoss := fun _ _ h => nomatch h
theorem resetLineChange (level : Level) : Statement (.resetLineChange level) := fun _ _ h => nomatch h
theorem resetFilterExpiry : Statement .resetFilterExpiry := fun _ _ h => nomatch h
theorem shedLineChange (level : Level) : Statement (.shedLineChange level) := fun _ _ h => nomatch h
theorem shedFilterExpiry : Statement .shedFilterExpiry := fun _ _ h => nomatch h
theorem roundComplete (readings : Readings) : Statement (.roundComplete readings) := fun _ _ h => nomatch h
theorem roundDeliveryChannel (c : Chan) : Statement (.roundDeliveryChannel c) := fun _ _ h => nomatch h
theorem roundDeliveryBudget : Statement .roundDeliveryBudget := fun _ _ h => nomatch h
theorem overloadHoldExpiry : Statement .overloadHoldExpiry := fun _ _ h => nomatch h
theorem roundDeliveryWatch : Statement .roundDeliveryWatch := fun _ _ h => nomatch h
theorem roundDeliveryMeter : Statement .roundDeliveryMeter := fun _ _ h => nomatch h
theorem senseCurrentChange (c : Chan) (current : Nat) : Statement (.senseCurrentChange c current) := fun _ _ h => nomatch h
theorem comparatorOperate (c : Chan) : Statement (.comparatorOperate c) := fun _ _ h => nomatch h
theorem tripEvent (c : Chan) (arming : Nat) : Statement (.tripEvent c arming) := fun h => by simpa [numbers, Instr.wf] using h
theorem startTimerExpiry (c : Chan) : Statement (.startTimerExpiry c) := fun _ _ h => nomatch h
theorem retryWindowExpiry (c : Chan) : Statement (.retryWindowExpiry c) := fun _ _ h => nomatch h
theorem cycleTimerExpiry (c : Chan) : Statement (.cycleTimerExpiry c) := fun _ _ h => nomatch h
theorem cooldownExpiry (c : Chan) : Statement (.cooldownExpiry c) := fun _ _ h => nomatch h
theorem queueGrant (c : Chan) (join : Nat) : Statement (.queueGrant c join) := fun h => by simpa [numbers, Instr.wf] using h
theorem cycleReturnGrant (c : Chan) (claim : Nat) : Statement (.cycleReturnGrant c claim) := fun h => by simpa [numbers, Instr.wf] using h
theorem replySentCycle (c : Chan) (request : Nat) : Statement (.replySentCycle c request) := fun _ _ h => nomatch h
theorem replyDiscardedCycle (c : Chan) (request : Nat) : Statement (.replyDiscardedCycle c request) := fun _ _ h => nomatch h
theorem restartReplySignal (fate : ReplyFate) (request : Nat) : Statement (.restartReplySignal fate request) := fun _ _ h => nomatch h
theorem duePass : Statement .duePass := fun _ _ h => nomatch h
theorem saveWriteEnd (result : WriteEnd) : Statement (.saveWriteEnd result) := fun _ _ h => nomatch h
theorem saveVerifyEnd : Statement .saveVerifyEnd := fun _ _ h => nomatch h
theorem receiveCharacterError : Statement .receiveCharacterError := fun _ _ h => nomatch h
theorem frameAbandonBadLen (len : Byte) : Statement (.frameAbandonBadLen len) := fun _ _ h => nomatch h
theorem gapTimerExpiry : Statement .gapTimerExpiry := fun _ _ h => nomatch h
theorem frameComplete (last : Byte) : Statement (.frameComplete last) := fun _ _ h => nomatch h
theorem validFrameSignal : Statement .validFrameSignal := fun _ _ h => nomatch h
theorem receiveLineChange (level : LineLevel) : Statement (.receiveLineChange level) := fun _ _ h => nomatch h
theorem breakTimerExpiry : Statement .breakTimerExpiry := fun _ _ h => nomatch h
theorem transmitFrameEnd : Statement .transmitFrameEnd := fun _ _ h => nomatch h
theorem noticeSent (nseq : Nat) : Statement (.noticeSent nseq) := fun h => by simpa [numbers, Instr.wf] using h
theorem ackTimerExpiry : Statement .ackTimerExpiry := fun _ _ h => nomatch h
theorem keepaliveExpiry : Statement .keepaliveExpiry := fun _ _ h => nomatch h
theorem unknownKind : Statement .unknownKind := fun _ _ h => nomatch h
theorem identify : Statement .identify := fun _ _ h => nomatch h
theorem linkStatus : Statement .linkStatus := fun _ _ h => nomatch h
theorem linkConfig : Statement .linkConfig := fun _ _ h => nomatch h
theorem sessionOpen : Statement .sessionOpen := fun _ _ h => nomatch h
theorem sessionClose : Statement .sessionClose := fun _ _ h => nomatch h
theorem ping : Statement .ping := fun _ _ h => nomatch h
theorem noticeAck : Statement .noticeAck := fun _ _ h => nomatch h
theorem subscribe : Statement .subscribe := fun _ _ h => nomatch h
theorem channelConfig : Statement .channelConfig := fun _ _ h => nomatch h
theorem channelQuery : Statement .channelQuery := fun _ _ h => nomatch h
theorem channelOn : Statement .channelOn := fun _ _ h => nomatch h
theorem channelOff : Statement .channelOff := fun _ _ h => nomatch h
theorem channelCycle : Statement .channelCycle := fun _ _ h => nomatch h
theorem channelClear : Statement .channelClear := fun _ _ h => nomatch h
theorem budgetConfig : Statement .budgetConfig := fun _ _ h => nomatch h
theorem budgetQuery : Statement .budgetQuery := fun _ _ h => nomatch h
theorem measureRead : Statement .measureRead := fun _ _ h => nomatch h
theorem energyRead : Statement .energyRead := fun _ _ h => nomatch h
theorem peakRead : Statement .peakRead := fun _ _ h => nomatch h
theorem watchSet : Statement .watchSet := fun _ _ h => nomatch h
theorem watchDelete : Statement .watchDelete := fun _ _ h => nomatch h
theorem watchClear : Statement .watchClear := fun _ _ h => nomatch h
theorem watchQuery : Statement .watchQuery := fun _ _ h => nomatch h
theorem schedAdd : Statement .schedAdd := fun _ _ h => nomatch h
theorem schedCancel : Statement .schedCancel := fun _ _ h => nomatch h
theorem schedList : Statement .schedList := fun _ _ h => nomatch h
theorem profileSave : Statement .profileSave := fun _ _ h => nomatch h
theorem profileQuery : Statement .profileQuery := fun _ _ h => nomatch h
theorem restart : Statement .restart := fun _ _ h => nomatch h
theorem characterReceived (char : Byte) : Statement (.characterReceived char) := fun _ _ h => nomatch h

end Sys2Proof.Laws.Fields
end

