-- ==== Sys2Proof/Laws/Requests.lean ====
section
/-! SUPPORT. What a request command does, said once for all of them: it serves the entry it dispatches, answers a failed check with
its status alone, or does nothing; and what the fields of a live event are. -/

namespace Sys2Proof.Machine

@[simp] theorem live_powered {f : State → State} {s : State} (h : s.powered = true) : live f s = .next (f s) := by
  simp [live, h]

@[simp] theorem live_unpowered {f : State → State} {s : State} (h : s.powered = false) : live f s = .next s := by
  simp [live, h]

variable {α : Type} {k : ReqKind} {parse : List Byte → Option α} {serve : Nat → α → State → State × Answer} {s : State}
  {e : ReqEntry}

/-- An entry is dispatched by the command of its kind once its valid-frame signal has been taken. -/
theorem State.dispatchable_some (h : s.link.oldestWaiting = some e) (hk : e.kind = k.code) (hw : e.signalWait = 0) :
    s.dispatchable k.code = some e := by simp [State.dispatchable, h, hk, hw]

/-- The dispatch of an entry: the checks and the owner at the time after the boundary, then the answer. -/
theorem State.dispatch_some (h : s.dispatchable k.code = some e) :
    State.dispatch k parse serve s
      = (s.afterBoundary.checked k e parse serve).1.reply e (s.afterBoundary.checked k e parse serve).2 := by
  simp only [State.dispatch, h]

/-- No entry of the kind is to be dispatched: nothing happens. -/
theorem State.dispatch_none (h : s.dispatchable k.code = none) : State.dispatch k parse serve s = s := by
  simp only [State.dispatch, h]

/-- Check 2 of R148 fails. -/
theorem State.checked_badLength (h : e.payload.length ≠ k.length) : s.checked k e parse serve = (s, answer .badLength []) := by
  simp only [State.checked, h, ne_eq, not_false_eq_true, if_true]

/-- Check 3 of R148 fails. -/
theorem State.checked_noSession (h : e.payload.length = k.length) (hn : k.needsSession e.payload = true)
    (hs : s.notices.sessionOpen = false) : s.checked k e parse serve = (s, answer .noSession []) := by
  simp [State.checked, h, hn, hs]

/-- Check 4 of R148 fails. -/
theorem State.checked_badField (h : e.payload.length = k.length)
    (hs : k.needsSession e.payload = true → s.notices.sessionOpen = true) (hp : parse e.payload = none) :
    s.checked k e parse serve = (s, answer .badField []) := by
  unfold State.checked
  cases hn : k.needsSession e.payload <;> simp [h, hp, hs, hn]

/-- The checks pass and the owner serves the request. -/
theorem State.checked_served {x : α} (h : e.payload.length = k.length)
    (hs : k.needsSession e.payload = true → s.notices.sessionOpen = true) (hp : parse e.payload = some x) :
    s.checked k e parse serve = serve e.id x s := by
  unfold State.checked
  cases hn : k.needsSession e.payload <;> simp [h, hp, hs, hn]

/-- A request that is dispatched with its fields in range is served by its owner and answered. -/
theorem live_dispatch {x : α} (h : Dispatches s k e) (hp : parse e.payload = some x) :
    live (State.dispatch k parse serve) s
      = .next ((serve e.id x s.afterBoundary).1.reply e (serve e.id x s.afterBoundary).2) := by
  obtain ⟨h1, h2, h3, h4, h5, h6⟩ := h
  rw [live_powered h1, State.dispatch_some (State.dispatchable_some h2 h3 h4), State.checked_served (s := s.afterBoundary) h5 h6 hp]

/-- A request with a field out of range is answered BAD_FIELD. -/
theorem live_dispatch_badField (h : Dispatches s k e) (hp : parse e.payload = none) :
    live (State.dispatch k parse serve) s = .next (s.afterBoundary.reply e (answer .badField [])) := by
  obtain ⟨h1, h2, h3, h4, h5, h6⟩ := h
  rw [live_powered h1, State.dispatch_some (State.dispatchable_some h2 h3 h4), State.checked_badField (s := s.afterBoundary) h5 h6 hp]

end Sys2Proof.Machine
end

