-- ==== Sys2Proof/Laws/Sheds.lean ====
section
/-! SUPPORT. What sheds do (R39 to R41): one shed, sheds one after another, and the whole of `State.shedWhile` as `ShedsDone` and
`shedNotices` of Safety.lean say it. -/

namespace Sys2Proof.Machine

/-- Committed after a record is given up (R28). -/
theorem Budget.committed_drop {b t : Budget} {c : Chan} {r : Reservation} (h : b.records.get c = some r)
    (ht : t.records = b.records.set c none) : t.committed = b.committed - r.amount := by
  unfold Budget.committed recordSum
  rw [ht]
  cases c <;> simp only [PerChan.get, PerChan.set, Chan.all, List.map, List.sum_cons, List.sum_nil] at * <;> simp [h] <;> omega

/-- The join of origin REQUEUE (R31, R41). -/
theorem Budget.join_requeue (b : Budget) (now : Nat) (c : Chan) (cfg : ChannelConfig) :
    b.join now c cfg .requeue = b.requeued now c cfg := rfl

/-- Whether a channel is queued again, as `State.shedChannel` asks it. -/
theorem State.requeues_iff (s : State) (c : Chan) :
    s.requeues c = true ↔ (s.chan c).cfg.afterShed = .requeue ∧ (s.chan c).cfg.allowance ≤ s.budget.settings.limit := by
  simp [State.requeues]

/-- The queue entries of a channel after it has given up what it held: none. -/
theorem Budget.drop_no_entry (b : Budget) (c : Chan) {x : Waiting} (hx : x ∈ (b.drop c).queue) : x.chan ≠ c := by
  have h : x ∈ b.queue.filter fun e => e.chan != c := hx
  simpa using (List.mem_filter.1 h).2

/-- One shed (R40, R41). -/
theorem State.shedChannel_done (s : State) (c : Chan) (cause : ShedCause) :
    ShedsDone cause s (s.shedChannel c cause) [c] := by
  refine ⟨(s.shedChannel_only c cause).mono (by simp), ?_, ?_⟩
  · intro d hd
    obtain rfl : d = c := by simpa using hd
    by_cases h : s.requeues d = true
    · have ht : s.shedChannel d cause = (s.leave d .off (shedReason cause)).joinQueue d .requeue :=
        if_pos ((s.requeues_iff d).1 h)
      rw [ht]
      refine ⟨?_, by simp [h], fun x hx hxc => ?_⟩
      · simp only [State.joinQueue, State.leave, State.onBudget_chan, State.onChan_chan_self, h, if_true, Channel.quiesce,
          Comparator.disarm]
        cases cause <;> rfl
      · have hx' : x ∈ ((s.budget.drop d).join s.uptime d ((s.leave d .off (shedReason cause)).chan d).cfg .requeue).queue := hx
        rcases (Budget.join_spec _ _ _ _ _ x).1.1 hx' with hx' | rfl
        · exact absurd hxc (Budget.drop_no_entry _ _ hx')
        · simp only [State.joinQueue, State.onBudget_chan, State.onChan_chan_self]
          rfl
    · have h' : s.requeues d = false := by simpa using h
      have ht : s.shedChannel d cause = s.leave d .off (shedReason cause) := if_neg fun k => h ((s.requeues_iff d).2 k)
      rw [ht]
      refine ⟨?_, fun _ => ?_, fun x hx hxc => absurd hxc (Budget.drop_no_entry _ _ hx)⟩
      · simp only [State.leave, State.onBudget_chan, State.onChan_chan_self, h', Channel.quiesce, Comparator.disarm]
        cases cause <;> rfl
      · simp only [State.leave, State.onBudget_chan, State.onChan_chan_self]
        rfl
  · by_cases h : s.requeues c = true
    · have ht : s.shedChannel c cause = (s.leave c .off (shedReason cause)).joinQueue c .requeue :=
        if_pos ((s.requeues_iff c).1 h)
      rw [ht]
      simp [State.joinQueue, State.leave, h, Channel.quiesce, Budget.join_requeue]
    · have ht : s.shedChannel c cause = s.leave c .off (shedReason cause) := if_neg fun k => h ((s.requeues_iff c).2 k)
      rw [ht]
      simp [State.leave, h]

/-- No shed at all. -/
theorem ShedsDone.nil (cause : ShedCause) (s : State) : ShedsDone cause s s [] := ⟨.refl _ _, by simp, rfl⟩

/-- The Budget Manager after the sheds of a list: an entry of a channel outside the list was there before. -/
theorem ShedsDone.entry_before {s : State} {order : List Chan} {b : Budget} {x : Waiting} (h : x.chan ∉ order)
    (hx : x ∈ (order.foldl (fun b c =>
      if s.requeues c then (b.drop c).requeued s.uptime c (s.chan c).cfg else b.drop c) b).queue) : x ∈ b.queue := by
  induction order generalizing b with
  | nil => exact hx
  | cons d rest ih =>
    simp only [List.mem_cons, not_or] at h
    have hd := ih h.2 hx
    dsimp only at hd
    split at hd
    · rw [← Budget.join_requeue] at hd
      rcases (Budget.join_spec _ _ _ _ _ x).1.1 hd with hd | rfl
      · exact (List.mem_filter.1 hd).1
      · exact absurd rfl h.1
    · exact (List.mem_filter.1 hd).1

/-- The fields of the Budget Manager that sheds leave as they are. -/
theorem ShedsDone.budget_kept {cause : ShedCause} {s t : State} {order : List Chan} (h : ShedsDone cause s t order) :
    t.budget.settings = s.budget.settings ∧ t.budget.shedLevel = s.budget.shedLevel ∧ t.budget.busGood = s.budget.busGood
    ∧ t.budget.lastBus = s.budget.lastBus ∧ t.budget.holdTimer = s.budget.holdTimer := by
  rw [h.2.2]
  generalize s.budget = b
  clear h
  induction order generalizing b with
  | nil => exact ⟨rfl, rfl, rfl, rfl, rfl⟩
  | cons d rest ih =>
    obtain ⟨h1, h2, h3, h4, h5⟩ := ih (if s.requeues d then (b.drop d).requeued s.uptime d (s.chan d).cfg else b.drop d)
    rw [List.foldl_cons]
    refine ⟨h1.trans ?_, h2.trans ?_, h3.trans ?_, h4.trans ?_, h5.trans ?_⟩ <;> split <;> rfl

/-- The records after sheds: those of the list are gone, the others stay (R40). -/
theorem ShedsDone.records {cause : ShedCause} {s t : State} {order : List Chan} (h : ShedsDone cause s t order) (c : Chan) :
    t.budget.records.get c = if c ∈ order then none else s.budget.records.get c := by
  rw [h.2.2]
  generalize s.budget = b
  clear h
  induction order generalizing b with
  | nil => simp
  | cons d rest ih =>
    have hd : (if s.requeues d then (b.drop d).requeued s.uptime d (s.chan d).cfg else b.drop d).records
        = b.records.set d none := by split <;> rfl
    rw [List.foldl_cons, ih, hd, PerChan.get_set]
    by_cases hc : c ∈ rest <;> simp [hc]

/-- A shed and then the others (R40). -/
theorem ShedsDone.cons {cause : ShedCause} {s t u : State} {c : Chan} {rest : List Chan} (h : ShedsDone cause s t [c])
    (k : ShedsDone cause t u rest) (hc : c ∉ rest) : ShedsDone cause s u (c :: rest) := by
  have hset := h.budget_kept.1
  obtain ⟨a1, a2, a3⟩ := h
  obtain ⟨b1, b2, b3⟩ := k
  have hup : t.uptime = s.uptime := a1 .uptime (by simp)
  have hch : ∀ d, d ≠ c → t.chan d = s.chan d := fun d hd => a1 (.chan d) (by simpa using hd)
  have hrq : ∀ d, d ≠ c → t.requeues d = s.requeues d := fun d hd => by simp only [State.requeues, hch d hd, hset]
  have huc : u.chan c = t.chan c := b1 (.chan c) (by simpa using hc)
  refine ⟨(a1.append b1).mono (by simp; tauto), ?_, ?_⟩
  · intro d hd
    by_cases hdc : d = c
    · subst hdc
      obtain ⟨c1, c2, c3⟩ := a2 d (by simp)
      rw [huc]
      refine ⟨c1, c2, fun x hx hxc => c3 x ?_ hxc⟩
      rw [b3] at hx
      exact ShedsDone.entry_before (hxc ▸ hc) hx
    · obtain ⟨c1, c2, c3⟩ := b2 d (by simpa [hdc] using hd)
      simp only [hch d hdc, hrq d hdc] at c1 c2
      exact ⟨c1, c2, c3⟩
  · rw [b3, a3, List.foldl_cons]
    apply List.foldl_ext
    intro b d hd
    have hdc : d ≠ c := fun h => hc (h ▸ hd)
    rw [hrq d hdc, hup, hch d hdc]

/-- The SHED notices read of the state before only the channels shed and their records. -/
theorem shedNotices_congr {cause : ShedCause} {s t u : State} {order : List Chan} (committed : Nat)
    (h : ∀ d ∈ order, t.chan d = s.chan d ∧ t.budget.records.get d = s.budget.records.get d) :
    shedNotices cause t u committed order = shedNotices cause s u committed order := by
  induction order generalizing committed with
  | nil => rfl
  | cons d rest ih =>
    have hr := fun n => ih n fun d hd => h d (List.mem_cons_of_mem _ hd)
    obtain ⟨h1, h2⟩ := h d (by simp)
    simp only [shedNotices, h1, h2]
    split
    · exact hr _
    · rw [hr]

/-- What the sheds of one event are, whatever their candidates (R40, R41): each channel shed held a record, none is shed twice,
and their notices come in their order. -/
theorem State.shedWhile_spec (cause : ShedCause) (candidate : Reservation → Bool) (more : Budget → Bool) (n : Nat)
    (s : State) :
    let r := State.shedWhile cause candidate more n s
    let order := r.2.map (·.1)
    order.Nodup ∧ (∀ c ∈ order, (s.budget.records.get c).isSome = true) ∧ ShedsDone cause s r.1 order
    ∧ r.2.map (fun x => (some x.1, x.2)) = shedNotices cause s r.1 s.budget.committed order := by
  induction n generalizing s with
  | zero => exact ⟨by simp [State.shedWhile], by simp [State.shedWhile], ShedsDone.nil _ _, rfl⟩
  | succ n ih =>
    have stops : ShedsDone cause s s [] := ShedsDone.nil _ _
    by_cases hm : more s.budget = true
    · cases hf : s.budget.firstInRank candidate with
      | none => simp only [State.shedWhile, hm, hf, if_true]; exact ⟨by simp, by simp, stops, rfl⟩
      | some x =>
        obtain ⟨c, r⟩ := x
        simp only [State.shedWhile, hm, hf, if_true, List.map_cons]
        have hheld := (Budget.firstInRank_some _ hf).1
        have hone := s.shedChannel_done c cause
        have hrec : (s.shedChannel c cause).budget.records = s.budget.records.set c none := (s.shedChannel_spec c cause).2.2.2.2.2.2.1
        obtain ⟨i1, i2, i3, i4⟩ := ih (s.shedChannel c cause)
        generalize State.shedWhile cause candidate more n (s.shedChannel c cause) = w at *
        have hother : ∀ d ∈ w.2.map (·.1), d ≠ c := by
          rintro d hd rfl
          have h := i2 d hd
          rw [hrec, PerChan.get_set_self] at h
          cases h
        have hc : c ∉ w.2.map (·.1) := fun h => hother c h rfl
        refine ⟨List.nodup_cons.2 ⟨hc, i1⟩, ?_, hone.cons i3 hc, ?_⟩
        · intro d hd
          rcases List.mem_cons.1 hd with rfl | hd
          · simp [hheld]
          · have h := i2 d hd
            rwa [hrec, PerChan.get_set_ne _ _ (hother d hd)] at h
        · have h1 : w.1.chan c = (s.shedChannel c cause).chan c := i3.1 (.chan c) (by simpa using hc)
          have h2 := Budget.committed_drop hheld hrec
          simp only [i4, shedNotices, hheld, shedNotice, h1, h2]
          rw [shedNotices_congr]
          intro d hd
          exact ⟨hone.1 (.chan d) (by simpa using hother d hd), by rw [hrec, PerChan.get_set_ne _ _ (hother d hd)]⟩
    · have hm' : more s.budget = false := by simpa using hm
      simp only [State.shedWhile, hm', Bool.false_eq_true, if_false]
      exact ⟨by simp, by simp, stops, rfl⟩

/-- The set of channels shed, in the form of the notices and replies. -/
theorem shedSet_eq (sheds : List (Chan × NoticeBody)) :
    shedSet sheds = Chan.all.filter fun c => (sheds.map (·.1)).contains c := by
  unfold shedSet
  congr 1
  funext c
  induction sheds with
  | nil => rfl
  | cons x rest ih =>
    rw [List.any_cons, ih, List.map_cons, List.contains_cons]
    cases x.1 <;> cases c <;> rfl

end Sys2Proof.Machine
end

