-- ==== Sys2Proof/Laws/Starts.lean ====
section
/-! SUPPORT. What a start does: the class order, the joins of a start, and the end of a start's event, in which nothing is granted
and no frame goes out. -/

namespace Sys2Proof.Machine

/-! The class order (R31). -/

theorem mem_classOrder {w : PerChan ChannelConfig} (h : ∀ c, (w.get c).cls ≤ 3) (c : Chan) : c ∈ classOrder w := by
  have hc := h c
  simp only [classOrder, List.mem_flatMap, List.mem_filter, Chan.mem_all, true_and, beq_iff_eq, List.mem_cons,
    List.not_mem_nil, or_false]
  exact ⟨(w.get c).cls, by omega, rfl⟩

theorem classOrder_nodup (w : PerChan ChannelConfig) : (classOrder w).Nodup := by
  refine List.nodup_flatMap.2 ⟨fun k _ => Chan.all_nodup.filter _, ?_⟩
  have h : List.Pairwise (fun a b : Nat => a ≠ b) [0, 1, 2, 3] := by decide
  refine h.imp fun hab x hx hy => hab ?_
  simp only [List.mem_filter, beq_iff_eq] at hx hy
  exact hx.2.symm.trans hy.2

theorem classOrder_sorted (w : PerChan ChannelConfig) :
    (classOrder w).Pairwise fun c d => (w.get c).cls ≤ (w.get d).cls := by
  refine List.pairwise_flatMap.2 ⟨fun k _ => List.pairwise_of_forall_mem_list fun a ha b hb => ?_, ?_⟩
  · simp only [List.mem_filter, beq_iff_eq] at ha hb
    omega
  · have h : List.Pairwise (fun a b : Nat => a ≤ b) [0, 1, 2, 3] := by decide
    refine h.imp fun hab x hx y hy => ?_
    simp only [List.mem_filter, beq_iff_eq] at hx hy
    omega

theorem classOrder_filter (w : PerChan ChannelConfig) (p : Chan → Bool) :
    (classOrder w).filter p = [0, 1, 2, 3].flatMap fun k => Chan.all.filter fun c => p c && (w.get c).cls == k := by
  unfold classOrder
  rw [List.filter_flatMap]
  congr 1
  funext k
  rw [List.filter_filter]

/-! The joins (R31, R132, R135). -/

/-- A join behind entries that are all of its class or a better one comes last. -/
theorem insertTail_last {e : Waiting} {q : List Waiting} (h : ∀ x ∈ q, x.cls ≤ e.cls) : insertTail e q = q ++ [e] := by
  unfold insertTail
  rw [List.takeWhile_eq_self_iff.2 (by simpa using h), List.dropWhile_eq_nil_iff.2 (by simpa using h)]

/-- The entry that a start's join of a channel places, with its join number. -/
def State.startEntry (s : State) (origin : Origin) (x : Chan × Nat) : Waiting :=
  { chan := x.1, cls := (s.chan x.1).cfg.cls, allowance := (s.chan x.1).cfg.allowance, joinStamp := s.uptime
    origin := origin, bypass := 0, joinNumber := x.2 }

/-- The joins of a start, of channels in class order behind the queue: those that fit are joined, in their order and with
numbers that rise from the next one; the others are OFF with reason BUDGET; nothing else changes. -/
theorem State.startJoins_spec {origin : Origin} (ho : origin ≠ .requeue) (cs : List Chan) (s : State) (hnodup : cs.Nodup)
    (horder : cs.Pairwise fun a b => (s.chan a).cfg.cls ≤ (s.chan b).cfg.cls)
    (hqueue : ∀ x ∈ s.budget.queue, ∀ c ∈ cs, x.cls ≤ (s.chan c).cfg.cls) (hjoin : s.budget.nextJoin + cs.length ≤ 65535) :
    let fits := fun c => decide ((s.chan c).cfg.allowance ≤ s.budget.settings.limit)
    let r := State.startJoins origin cs s
    let new := ((cs.filter fits).zipIdx s.budget.nextJoin).map (s.startEntry origin)
    r.2 = cs.filter fits
    ∧ r.1.budget =
        { s.budget with
          queue := s.budget.queue ++ new
          nextJoin := s.budget.nextJoin + (cs.filter fits).length
          scanDue := s.budget.scanDue || !(cs.filter fits).isEmpty }
    ∧ (∀ c, r.1.chan c =
        if c ∈ cs then
          if fits c then
            { s.chan c with
              state := .queued
              joinNumber := ((new.find? fun x => x.chan == c).map (·.joinNumber)).getD (s.chan c).joinNumber }
          else { s.chan c with state := .off, lastOff := .budget }
        else s.chan c) := by
  induction cs generalizing s with
  | nil => simp [State.startJoins]
  | cons c rest ih =>
    rw [List.nodup_cons] at hnodup
    rw [List.pairwise_cons] at horder
    simp only [List.length_cons] at hjoin
    intro fits r new
    have hne : ∀ d ∈ rest, d ≠ c := fun d hd h => hnodup.1 (h ▸ hd)
    by_cases hf : (s.chan c).cfg.allowance ≤ s.budget.settings.limit
    · have hr : r = ((State.startJoins origin rest (s.joinQueue c origin)).1,
          c :: (State.startJoins origin rest (s.joinQueue c origin)).2) := by
        simp only [r, State.startJoins, hf, if_true]
      obtain ⟨k1, k2, k3⟩ := s.joinQueue_spec c origin
      have hcfg : ∀ d, ((s.joinQueue c origin).chan d).cfg = (s.chan d).cfg := by
        intro d
        by_cases hd : d = c
        · subst hd; rw [k1]
        · rw [k3 d hd]
      have hq : (s.joinQueue c origin).budget.queue = s.budget.queue ++ [s.startEntry origin (c, s.budget.nextJoin)] := by
        rw [k2]
        simp only [Budget.join, if_neg ho]
        exact insertTail_last fun x hx => hqueue x hx c (by simp)
      have hn : (s.joinQueue c origin).budget.nextJoin = s.budget.nextJoin + 1 := by
        rw [k2]
        simp only [Budget.join, wrapSucc]
        rw [if_pos (by omega)]
      have hs : (s.joinQueue c origin).budget.settings = s.budget.settings := by rw [k2]; rfl
      have hu : (s.joinQueue c origin).uptime = s.uptime := s.joinQueue_only c origin .uptime (by simp)
      have hb : (s.joinQueue c origin).budget = { s.budget with
          queue := (s.joinQueue c origin).budget.queue, nextJoin := (s.joinQueue c origin).budget.nextJoin, scanDue := true } := by
        rw [k2]; rfl
      generalize s.joinQueue c origin = t at *
      obtain ⟨i1, i2, i3⟩ := ih t hnodup.2 (by simpa only [hcfg] using horder.2)
        (by
          intro x hx d hd
          rw [hq, List.mem_append] at hx
          rw [hcfg]
          rcases hx with hx | hx
          · exact hqueue x hx d (by simp [hd])
          · obtain rfl : x = s.startEntry origin (c, s.budget.nextJoin) := by simpa using hx
            exact horder.1 d hd)
        (by omega)
      have hfits : (fun d => decide ((t.chan d).cfg.allowance ≤ t.budget.settings.limit)) = fits := by
        funext d; simp only [hcfg, hs, fits]
      have hentry : t.startEntry origin = s.startEntry origin := by funext x; simp only [State.startEntry, hcfg, hu]
      rw [hfits] at i1
      rw [hfits, hentry, hn] at i2 i3
      have hfc : fits c = true := by simpa [fits] using hf
      have hfil : (c :: rest).filter fits = c :: rest.filter fits := by simp [hfc]
      have hnew : new = s.startEntry origin (c, s.budget.nextJoin)
          :: ((rest.filter fits).zipIdx (s.budget.nextJoin + 1)).map (s.startEntry origin) := by
        simp only [new, hfil, List.zipIdx_cons, List.map_cons]
      refine ⟨by rw [hr, hfil, i1], ?_, fun d => ?_⟩
      · rw [hr, i2, hfil, hnew, hq, hb]
        simp only [List.append_assoc, List.cons_append, List.nil_append, List.length_cons, List.isEmpty_cons, Bool.not_false,
          Bool.or_true, Bool.true_or, Budget.mk.injEq, and_self, true_and, and_true]
        omega
      · rw [hr]
        simp only [i3 d]
        by_cases hd : d = c
        · subst hd
          simp only [hnodup.1, if_false, List.mem_cons, true_or, if_true, hfc, hnew, List.find?_cons]
          rw [k1]
          simp [State.startEntry]
        · have hdc : (c == d) = false := by simpa using fun h => hd h.symm
          simp only [List.mem_cons, hd, false_or, hnew, List.find?_cons, State.startEntry, hdc, k3 d hd]
    · have hr : r = State.startJoins origin rest (s.onChan c fun k => { k with state := .off, lastOff := .budget }) := by
        simp only [r, State.startJoins, hf, if_false]
      have k1 : (s.onChan c fun k => { k with state := .off, lastOff := .budget }).chan c
          = { s.chan c with state := .off, lastOff := .budget } := State.onChan_chan_self ..
      have k2 : (s.onChan c fun k => { k with state := .off, lastOff := .budget }).budget = s.budget := rfl
      have hu : (s.onChan c fun k => { k with state := .off, lastOff := .budget }).uptime = s.uptime := rfl
      have k3 : ∀ d, d ≠ c → (s.onChan c fun k => { k with state := .off, lastOff := .budget }).chan d = s.chan d :=
        fun d hd => s.onChan_only c _ (.chan d) (by simpa using hd)
      generalize (s.onChan c fun k => { k with state := .off, lastOff := .budget }) = t at *
      have hcfg : ∀ d, (t.chan d).cfg = (s.chan d).cfg := by
        intro d
        by_cases hd : d = c
        · subst hd; rw [k1]
        · rw [k3 d hd]
      obtain ⟨i1, i2, i3⟩ := ih t hnodup.2 (by simpa only [hcfg] using horder.2)
        (by intro x hx d hd; rw [k2] at hx; rw [hcfg]; exact hqueue x hx d (by simp [hd])) (by rw [k2]; omega)
      have hfits : (fun d => decide ((t.chan d).cfg.allowance ≤ t.budget.settings.limit)) = fits := by
        funext d; simp only [hcfg, k2, fits]
      have hentry : t.startEntry origin = s.startEntry origin := by funext x; simp only [State.startEntry, hcfg, hu]
      rw [hfits] at i1
      rw [hfits, hentry, k2] at i2 i3
      have hfc : fits c = false := by simpa [fits] using hf
      have hfil : (c :: rest).filter fits = rest.filter fits := by simp [hfc]
      have hnew : new = ((rest.filter fits).zipIdx s.budget.nextJoin).map (s.startEntry origin) := by simp only [new, hfil]
      refine ⟨by rw [hr, hfil, i1], by rw [hr, i2, hfil, hnew], fun d => ?_⟩
      rw [hr, i3 d, hnew]
      by_cases hd : d = c
      · subst hd
        simp [hnodup.1, hfc, k1]
      · simp only [List.mem_cons, hd, false_or, k3 d hd]

/-! The end of a start's event (R51, R136, R150). -/

/-- With the bus not good, no entry in the request queue and no frame waiting, the end of an event only takes the scan off. -/
theorem State.settle_atStart {s : State} (hq : s.link.queue = []) (hn : ∀ n ∈ s.notices.queue, n.frameWaiting = false)
    (hb : s.budget.busGood = false) : s.settle = { s with budget := { s.budget with scanDue := false } } := by
  have hr : s.runScan = { s with budget := { s.budget with scanDue := false } } := by
    simp only [State.runScan, State.onBudget, Budget.runScan_notGood _ _ hb]
  have h1 : s.link.readyReply = none := by simp [Link.readyReply, hq]
  have h2 : s.notices.readyNotice = none := by
    simp only [Notices.readyNotice, List.find?_eq_none]
    intro n h
    simp [hn n h]
  unfold State.settle
  rw [hr]
  unfold State.arbitrate
  cases s.link.tx <;> simp [h1, h2]

/-- A notice posted in CLOSED to a queue with room: it joins the queue UNSENT, or leaves no trace (R163 to R166). -/
theorem Notices.post_closed (u : Notices) (now : Nat) (chan : Option Chan) (body : NoticeBody) (hc : u.sessionOpen = false)
    (hl : u.queue.length < 24) :
    (u.post now chan body).sessionOpen = false
    ∧ (u.post now chan body).queue = u.queue ++
        if u.subscriptions.getLsbD body.kind.index then [⟨u.nextNseq, body.cls, now, chan, body, u.lost, .unsent, false⟩]
        else [] := by
  by_cases h : u.subscriptions.getLsbD body.kind.index = true
  · have hv : u.post now chan body = ((u.join now chan body).fillWindow).setAttn := by
      simp [Notices.post, h, Notices.meetQueue, hl]
    rw [hv, if_pos h]
    simp [Notices.setAttn, Notices.fillWindow, Notices.join, hc]
  · have hv : u.post now chan body = u := u.post_unsubscribed now chan body (by simpa using h)
    rw [hv, if_neg h]
    simp [hc]

/-- Several notices posted in CLOSED to a queue with room for all. -/
theorem State.postAll_closed (l : List (Option Chan × NoticeBody)) (s : State) (hc : s.notices.sessionOpen = false)
    (hl : s.notices.queue.length + l.length ≤ 24) :
    (s.postAll l).notices.sessionOpen = false
    ∧ ∃ new, (s.postAll l).notices.queue = s.notices.queue ++ new ∧ ∀ n ∈ new, n.frameWaiting = false := by
  induction l generalizing s with
  | nil => exact ⟨hc, [], by simp [State.postAll], by simp⟩
  | cons x rest ih =>
    simp only [List.length_cons] at hl
    obtain ⟨h1, h2⟩ := s.notices.post_closed s.uptime x.1 x.2 hc (by omega)
    have hlen : (s.post x.1 x.2).notices.queue.length ≤ s.notices.queue.length + 1 := by
      show (s.notices.post s.uptime x.1 x.2).queue.length ≤ _
      rw [h2]
      split <;> simp
    obtain ⟨k1, new, k2, k3⟩ := ih (s.post x.1 x.2) h1 (by omega)
    refine ⟨k1, _, k2.trans ((congrArg (· ++ new) h2).trans (List.append_assoc ..)), ?_⟩
    intro n hn
    rcases List.mem_append.1 hn with hn | hn
    · split at hn
      · rw [List.mem_singleton.1 hn]
      · simp at hn
    · exact k3 n hn

end Sys2Proof.Machine
end

