-- ==== Sys2Proof/Tests/Slice0.lean ====
section
/-! SUPPORT. Tests: the checks of WellFormed on ill-formed terms, single steps with the results that the spec's text and worked
sequences give, and for every statement with hypotheses a state and operands that meet them (`meets_…`). -/

namespace Sys2Proof.Tests
open Sys2Proof Sys2Proof.Machine

/-! WellFormed: an ill-formed term for each check. -/

theorem test_wf_arming : Instr.wf (.tripEvent .ch0 256) = false ∧ Instr.wf (.tripEvent .ch0 255) = true := by decide
theorem test_wf_join : Instr.wf (.queueGrant .ch0 65536) = false ∧ Instr.wf (.queueGrant .ch0 65535) = true := by decide
theorem test_wf_claim : Instr.wf (.cycleReturnGrant .ch0 65536) = false := by decide
theorem test_wf_nseq : Instr.wf (.noticeSent 65536) = false := by decide
theorem test_wf_bad_len :
    Instr.wf (.frameAbandonBadLen 2) = false ∧ Instr.wf (.frameAbandonBadLen 250) = false
      ∧ Instr.wf (.frameAbandonBadLen 1) = true ∧ Instr.wf (.frameAbandonBadLen 251) = true := by decide
theorem test_wf_reported_generation :
    Instr.wf (.saveWriteEnd (.reportedFailure (some { generation := 0, contents := Config.factory, check := 0 }))) = false := by
  decide
theorem test_wf_generation_low :
    Instr.wf (.saveWriteEnd (.other (some { generation := 0, contents := Config.factory, check := 0 }))) = false := by decide
theorem test_wf_generation_high :
    Instr.wf (.saveWriteEnd (.other (some { generation := 4294967296, contents := Config.factory, check := 0 }))) = false := by
  decide
theorem test_wf_copy_watches :
    Instr.wf (.saveWriteEnd (.other (some
      { generation := 1, contents := { Config.factory with watches := [] }, check := 0 }))) = false := by decide

/-! Building states. -/

/-- A request entry with a payload, dispatched next. -/
def entryOf (k : ReqKind) (payload : List Byte) : ReqEntry :=
  { id := 5, kind := k.code, seq := 7, crc := 0x1234, payload := payload, form := .new, phase := .waiting, reply := []
    awaiting := .nothing, signalWait := 0 }

/-- A state with an open session and one request in hand. -/
def asked (k : ReqKind) (payload : List Byte) (s : State) : State :=
  { s with
    powered := true
    link := { s.link with queue := [entryOf k payload] }
    notices := { s.notices with sessionOpen := true } }

theorem asked_dispatches (k : ReqKind) (payload : List Byte) (s : State) (h : payload.length = k.length) :
    Dispatches (asked k payload s) k (entryOf k payload) := ⟨rfl, rfl, rfl, rfl, h, fun _ => rfl⟩

/-- Reset with CH0 in a state. -/
def at0 (st : ChState) : State := { State.reset with chans := State.reset.chans.set .ch0 { Channel.reset with state := st } }

/-- CH0 changed. -/
def with0 (s : State) (f : Channel → Channel) : State := s.onChan .ch0 f

/-- A reservation record of 40 W. -/
def rec40 (cls stamp : Nat) (phase : Phase) : Reservation :=
  { amount := 40, cls := cls, grantStamp := stamp, phase := phase, slot := false, grantTaken := false, claimWaiting := false }

/-- CH0 ON with its reservation, in agreement everywhere. -/
def lit : State :=
  let s := with0 (at0 .on) fun k =>
    { k with
      cfg := { k.cfg with enabled := true, allowance := 40, cls := 0 }, gate := .full
      comparator := { k.comparator with armed := true, threshold := 5000, armingNumber := 1 } }
  { s with
    budget := { s.budget with records := s.budget.records.set .ch0 (some (rec40 0 0 .on)), busGood := true }
    pending := [.tripEvent .ch0 1] }

/-- A notice. -/
def note (nseq : Nat) (cls : NoticeClass) (d : Delivery) (w : Bool) : Notice :=
  { nseq := nseq, cls := cls, stamp := 0, chan := none, body := .overload 0 0 true, lost := 0, delivery := d, frameWaiting := w }

/-- Reset with a notice queue. -/
def noted (q : List Notice) : State := { State.reset with notices := { State.reset.notices with queue := q } }

/-- An admission queue entry. -/
def wait (c : Chan) (cls allowance bypass : Nat) : Waiting :=
  { chan := c, cls := cls, allowance := allowance, joinStamp := 0, origin := .host, bypass := bypass, joinNumber := 0 }

/-! Single steps with results from the spec. -/

set_option maxRecDepth 20000 in
/-- R142: the check of the nine characters "123456789". -/
theorem test_crc16 : crc16 [0x31, 0x32, 0x33, 0x34, 0x35, 0x36, 0x37, 0x38, 0x39] = 0x29B1#16 := by rfl
/-- R71: a full-scale current at a full-scale voltage gives 2,147,385 mW. -/
theorem test_full_scale_power : samplePower 32767 65535 = 2147385 := by decide
/-- Para 2.11.1: at uptime 130 the walk passes CH2 and grants CH3. -/
theorem test_walk_bypass :
    walkQueue .released 90 2 [wait .ch2 1 120 0, wait .ch3 2 40 0, wait .ch4 2 30 0, wait .ch5 3 20 0]
      = some (wait .ch3 2 40 0, [wait .ch2 1 120 1, wait .ch4 2 30 0, wait .ch5 3 20 0]) := by decide
/-- Para 2.11.1: at uptime 230 CH2 is a blocker. -/
theorem test_walk_blocked : walkQueue .released 20 2 [wait .ch2 1 120 2, wait .ch5 3 20 0] = none := by decide
/-- Para 2.11.2: among class 2 the later grant stamp is shed first, before class 1. -/
theorem test_shed_rank :
    ({ State.reset.budget with
        records := ((State.reset.budget.records.set .ch1 (some (rec40 2 2000 .on))).set .ch2 (some (rec40 2 3000 .on))).set .ch3
          (some (rec40 1 2500 .on)) } : Budget).firstInRank anyHeld = some (.ch2, rec40 2 3000 .on) := by decide
/-- R115: a period of 60 s, fired 61,000 ms late, re-arms by two periods with one occurrence skipped. -/
theorem test_rearm :
    let e : SchedEntry := { tag := 1, chan := .ch0, action := .on, due := 1000, period := 60, insertion := 0, missed := 0 }
    (e.rearm 62000).due = 121000 ∧ (e.rearm 62000).missed = 1 := by decide
/-- R133: POWER_ON with blank copies and the lines at rest gives the reset state. -/
theorem test_power_on_is_reset : execPowerOn State.reset = .next State.reset := by rfl
/-- R140: a SYNC byte is taken in HUNT. -/
theorem test_sync : (State.reset.takeCharacter 0xA5).link.receiver = .length := by decide
/-- R140: a LEN byte of 251 abandons the frame and is counted. -/
theorem test_len_251 :
    (({ State.reset.link with receiver := .length } : Link).takeCharacter 251 0).stats.framingAborts = 1 := by decide
/-- R173: two bytes, most significant first. -/
theorem test_be : be 2 0x1234 = [0x12, 0x34] ∧ readBe [0x12, 0x34] = 0x1234 := by decide
/-- R174: the KIND values tell the kinds apart. -/
theorem test_kinds : ∀ k ∈ ReqKind.all, ReqKind.ofCode? k.code = some k := by decide
/-- The table gives no row any bits. -/
theorem test_no_words : decodeTableWord 16 0x1234 = none ∧ State.reset.withFetchWord 16 0x1234 = State.reset := by
  exact ⟨rfl, rfl⟩

/-! Witnesses for the hypotheses of the statements, in their order. -/

theorem meets_StepTakesFront : ({ State.reset with pending := [.ping] } : State).pending = .ping :: [] := rfl

theorem meets_StepPassesTime :
    let off : State := { State.reset with powered := false }
    let waiting : State := { State.reset with link := { State.reset.link with validSignals := 1 } }
    let idle : State := { State.reset with within := true, uptime := 2 ^ 48 - 2 }
    let done : State := { idle with sampler := { idle.sampler with round := none } }
    (off.pending = [] ∧ off.powered = false)
    ∧ (waiting.pending = [] ∧ waiting.powered = true ∧ expiries waiting ++ transits waiting = .validFrameSignal :: [])
    ∧ (State.reset.pending = [] ∧ expiries State.reset ++ transits State.reset = [] ∧ State.reset.within = false)
    ∧ (idle.pending = [] ∧ expiries idle ++ transits idle = [] ∧ idle.within = true ∧ idle.sampler.round = some 0)
    ∧ (done.pending = [] ∧ expiries done ++ transits done = [] ∧ done.within = true ∧ done.sampler.round = none
        ∧ done.uptime + 1 < 2 ^ 48) := by decide

theorem meets_UnsuppliedPartIsInert :
    ({ State.reset with powered := false } : State).powered = false ∧ Instr.ping ≠ .powerOn ∧ Instr.ping ≠ .powerLoss
      ∧ (∀ l, Instr.ping ≠ .resetLineChange l) ∧ (∀ l, Instr.ping ≠ .shedLineChange l)
      ∧ ∀ l, Instr.ping ≠ .receiveLineChange l := by simp

theorem lit_channelsSound : ChannelsSound lit := by
  intro c
  cases c <;> (unfold Channel.Sound; simp [lit, with0, at0, State.onChan, State.chan, PerChan.update, PerChan.set, PerChan.get,
    State.reset, PerChan.ofFn, Channel.reset, Comparator.blank, Config.factoryChannel])

theorem lit_budgetAgrees : BudgetAgrees lit := by
  intro c
  cases c <;> (unfold Agrees; simp [lit, with0, at0, State.onChan, State.chan, PerChan.update, PerChan.set, PerChan.get,
    State.reset, PerChan.ofFn, Channel.reset, Config.factoryChannel, rec40])

theorem lit_steps : ∃ t, step lit = .next t := ⟨_, rfl⟩

theorem meets_StepKeepsChannelsSound : ChannelsSound lit ∧ ∃ t, step lit = .next t := ⟨lit_channelsSound, lit_steps⟩
theorem meets_StepKeepsBudgetAgrees : ChannelsSound lit ∧ BudgetAgrees lit ∧ ∃ t, step lit = .next t :=
  ⟨lit_channelsSound, lit_budgetAgrees, lit_steps⟩
theorem meets_StepKeepsBudgetWithin : BudgetWithin lit ∧ ∃ t, step lit = .next t :=
  ⟨by unfold BudgetWithin; decide, lit_steps⟩
theorem meets_StepKeepsScheduleSound : ScheduleSound lit ∧ ∃ t, step lit = .next t :=
  ⟨by unfold ScheduleSound; decide, lit_steps⟩
theorem meets_StepKeepsQueuesBounded : QueuesBounded lit ∧ ∃ t, step lit = .next t :=
  ⟨by unfold QueuesBounded; decide, lit_steps⟩
theorem meets_StepKeepsAttn : AttnAgrees lit ∧ ∃ t, step lit = .next t := ⟨by unfold AttnAgrees; decide, lit_steps⟩
theorem meets_StepKeepsDeliverySound : DeliverySound lit ∧ ∃ t, step lit = .next t :=
  ⟨by unfold DeliverySound; decide, lit_steps⟩

/-- CH0 LATCHED, everything else as in reset. -/
def latched0 : State := at0 .latched

theorem meets_LatchedIsLeftOnlyBy :
    (ChannelsSound latched0 ∧ BudgetAgrees latched0)
    ∧ ∃ t, exec .powerLoss latched0 = .next t ∧ (latched0.chan .ch0).state = .latched ∧ (t.chan .ch0).state ≠ .latched := by
  refine ⟨⟨?_, ?_⟩, _, rfl, rfl, by decide⟩
  · intro c
    cases c <;> (unfold Channel.Sound; simp [latched0, at0, State.chan, PerChan.set, PerChan.get, State.reset, PerChan.ofFn,
      Channel.reset, Comparator.blank, Config.factoryChannel])
  · intro c
    cases c <;> (unfold Agrees; simp [latched0, at0, State.chan, PerChan.set, PerChan.get, State.reset, PerChan.ofFn,
      Channel.reset])

theorem meets_TripTotalCountsFaults :
    let hit := with0 lit fun k => { k with trips := [1] }
    let slow := with0 (at0 .starting) fun k => { k with timer := .start 0, tripTotal := 65535 }
    (∃ t, exec (.tripEvent .ch0 1) hit = .next t)
    ∧ (hit.powered = true ∧ 1 ∈ (hit.chan .ch0).trips ∧ (hit.chan .ch0).state = .on
      ∧ (hit.chan .ch0).comparator.armingNumber = 1)
    ∧ (∃ t, exec (.startTimerExpiry .ch0) slow = .next t)
    ∧ (slow.powered = true ∧ (slow.chan .ch0).state = .starting ∧ (slow.chan .ch0).timer = .start 0 ∧ 0 ≤ slow.uptime)
    ∧ (∃ t, exec .powerLoss slow = .next t) ∧ ∃ t, exec .duePass slow = .next t := by
  refine ⟨⟨_, rfl⟩, by decide, ⟨_, rfl⟩, by decide, ⟨_, rfl⟩, ⟨_, rfl⟩⟩

theorem meets_ArbiterChooses :
    let ready : ReqEntry := { entryOf .ping [] with phase := .answered }
    let busy : State := { State.reset with link := { State.reset.link with tx := .reply [] } }
    let both : State := { noted [note 0 .urgent .offered true] with link := { State.reset.link with queue := [ready] } }
    let alone : State := { noted [note 0 .urgent .unsent false] with link := { State.reset.link with queue := [ready] } }
    let notice := noted [note 0 .urgent .inFlight false, note 1 .routine .offered true]
    busy.link.tx ≠ .idle
    ∧ (both.link.tx = .idle ∧ both.link.queue = ready :: [] ∧ ready.phase = .answered
      ∧ both.notices.queue.find? (fun x => x.frameWaiting) = some (note 0 .urgent .offered true))
    ∧ (State.reset.link.queue = [] ∧ State.reset.notices.queue.find? (fun x => x.frameWaiting) = none)
    ∧ (notice.link.tx = .idle ∧ notice.link.queue = []
      ∧ notice.notices.queue.find? (fun x => x.frameWaiting) = some (note 1 .routine .offered true))
    ∧ (alone.link.tx = .idle ∧ alone.link.queue = ready :: []
      ∧ alone.notices.queue.find? (fun x => x.frameWaiting) = none) := by decide

/-- A Budget Manager with the bus good, a scan due, a free slot, a limit of 60 W and an admission queue. -/
def scanning (queue : List Waiting) (claims : List Claim) : Budget :=
  { State.reset.budget with
    settings := { State.reset.budget.settings with limit := 60, slots := 1 }
    busGood := true, queue := queue, claims := claims, scanDue := true }

theorem meets_WalkGrantsFirstThatFits :
    let grants := scanning [wait .ch0 0 61 0, wait .ch1 0 60 0] []
    let none := scanning [wait .ch0 0 61 0] []
    let claimed := scanning [wait .ch0 0 60 0] [⟨.ch2, 5, 0⟩]
    (State.reset.budget.scanDue = false ∧ grants.scanDue = true)
    ∧ (State.reset.budget.busGood = false
      ∧ ({ grants with settings := { grants.settings with slots := 0 } } : Budget).settings.slots ≤ grants.slotsInUse)
    ∧ (claimed.busGood = true ∧ claimed.slotsInUse < claimed.settings.slots ∧ claimed.claims = ⟨.ch2, 5, 0⟩ :: [])
    ∧ (grants.busGood = true ∧ grants.slotsInUse < grants.settings.slots ∧ grants.claims = []
      ∧ walkQueue grants.shedLevel (grants.settings.limit - grants.committed) grants.settings.bypassLimit grants.queue
          = some (wait .ch1 0 60 0, [wait .ch0 0 61 1]))
    ∧ (none.claims = []
      ∧ walkQueue none.shedLevel (none.settings.limit - none.committed) none.settings.bypassLimit none.queue = .none) := by
  decide

theorem meets_ShedRankFirst :
    lit.budget.firstInRank anyHeld = some (.ch0, rec40 0 0 .on) ∧ lit.budget.firstInRank shedLineCandidate = none := by decide

/-- A full notice queue, its second notice routine and UNSENT. -/
def fullQueue : List Notice :=
  note 0 .urgent .unsent false :: note 1 .routine .unsent false :: List.replicate 22 (note 2 .urgent .unsent false)

theorem meets_PostMeetsQueue :
    let u := (noted fullQueue).notices
    let v := (noted (List.replicate 24 (note 0 .urgent .unsent false))).notices
    ({ u with subscriptions := 0 } : Notices).subscriptions.getLsbD 5 = false
    ∧ ((noted (List.replicate 23 (note 0 .urgent .unsent false))).notices.queue.length < 24
      ∧ u.subscriptions.getLsbD 5 = true)
    ∧ (u.queue.length = 24 ∧ NoticeBody.cls (.overload 0 0 true) = .urgent
      ∧ u.queue = [note 0 .urgent .unsent false] ++ note 1 .routine .unsent false ::
          List.replicate 22 (note 2 .urgent .unsent false))
    ∧ (v.queue.length = 24 ∧ ∀ x ∈ v.queue, ¬(x.cls = .routine ∧ x.delivery = .unsent)) := by decide

theorem meets_DispatchChecks :
    let s := asked .sessionClose [] State.reset
    let closed : State := { s with notices := State.reset.notices }
    let odd : ReqEntry := { entryOf .ping [] with kind := 0x7F }
    let strange : State := { s with link := { s.link with queue := [odd] } }
    (strange.powered = true ∧ strange.link.oldestWaiting = some odd ∧ odd.signalWait = 0 ∧ ReqKind.ofCode? odd.kind = none)
    ∧ (entryOf .ping [0]).payload.length ≠ ReqKind.ping.length
    ∧ (closed.link.oldestWaiting = some (entryOf .sessionClose []) ∧ (entryOf .sessionClose []).payload.length = 0
      ∧ ReqKind.sessionClose.needsSession [] = true ∧ closed.notices.sessionOpen = false)
    ∧ (fieldsInRange .channelOn [8] = false ∧ [(8 : Byte)].length = ReqKind.channelOn.length) := by decide

theorem meets_QueriesAnswer :
    Dispatches (asked .identify [] State.reset) .identify (entryOf .identify [])
    ∧ (Dispatches (asked .channelQuery [0x1F] State.reset) .channelQuery (entryOf .channelQuery [0x1F])
      ∧ parseChannelQuery [0x1F] = some [.ch0, .ch1, .ch2, .ch3, .ch4])
    ∧ Dispatches (asked .budgetQuery [] State.reset) .budgetQuery (entryOf .budgetQuery [])
    ∧ (Dispatches (asked .measureRead [0] State.reset) .measureRead (entryOf .measureRead [0]) ∧ parseMask [0] = some [])
    ∧ (Dispatches (asked .watchQuery [0x80, 0x01] State.reset) .watchQuery (entryOf .watchQuery [0x80, 0x01])
      ∧ parseWatchQuery [0x80, 0x01] = some [0, 15])
    ∧ (Dispatches (asked .schedList [31] State.reset) .schedList (entryOf .schedList [31]) ∧ parseSchedList [31] = some 31)
    ∧ Dispatches (asked .profileQuery [] State.reset) .profileQuery (entryOf .profileQuery [])
    ∧ (Dispatches (asked .ping [] State.reset) .ping (entryOf .ping [])
      ∧ (asked .ping [] State.reset).notices.sessionOpen = true)
    ∧ (Dispatches { asked .ping [] State.reset with notices := State.reset.notices } .ping (entryOf .ping [])
      ∧ State.reset.notices.sessionOpen = false) := by
  refine ⟨asked_dispatches _ _ _ rfl, ⟨asked_dispatches _ _ _ rfl, by decide⟩, asked_dispatches _ _ _ rfl,
    ⟨asked_dispatches _ _ _ rfl, by decide⟩, ⟨asked_dispatches _ _ _ rfl, by decide⟩,
    ⟨asked_dispatches _ _ _ rfl, by decide⟩, asked_dispatches _ _ _ rfl, ⟨asked_dispatches _ _ _ rfl, rfl⟩,
    ⟨rfl, rfl, rfl, rfl, rfl, fun h => nomatch h⟩, rfl⟩

theorem meets_LinkStatusReadsThenClears :
    let s := asked .linkStatus [0] State.reset
    let t := asked .linkStatus [1] State.reset
    (s.powered = true ∧ s.link.oldestWaiting = some (entryOf .linkStatus [0]) ∧ parseLinkStatus [0] = some false)
    ∧ (t.powered = true ∧ t.link.oldestWaiting = some (entryOf .linkStatus [1]) ∧ parseLinkStatus [1] = some true
      ∧ t.notices.sessionOpen = true)
    ∧ ({ t with notices := State.reset.notices } : State).notices.sessionOpen = false := by decide

theorem meets_MeterReads :
    let valid (stamp : Nat) : State := { State.reset with meter := { State.reset.meter with snapshot := some stamp } }
    parseEnergyRead [0xFF, 1] = some (Chan.all, true) ∧ parseEnergyRead [0, 0] = some ([], false)
    ∧ parsePeakRead [0x80, 3] = some ([.ch7], true, true) ∧ parsePeakRead [0, 0] = some ([], false, false)
    ∧ Dispatches (asked .energyRead [0xFF, 1] State.reset) .energyRead (entryOf .energyRead [0xFF, 1])
    ∧ Dispatches (asked .peakRead [0x80, 3] (valid (2 ^ 48 - 1))) .peakRead (entryOf .peakRead [0x80, 3])
    ∧ State.reset.meter.snapshot = none ∧ (valid (2 ^ 48 - 1)).meter.snapshot = some (2 ^ 48 - 1)
    ∧ (2 ^ 48 - 2) + 1 < 2 ^ 48 ∧ ¬(2 ^ 48 - 1) + 1 < 2 ^ 48 :=
  ⟨by decide, by decide, by decide, by decide, asked_dispatches _ _ _ rfl, asked_dispatches _ _ _ rfl, rfl, rfl, by decide,
    by decide⟩

/-- Reset with a save WRITING. -/
def saving : State :=
  { State.reset with
    profile := { State.reset.profile with
      saveState := .writing, target := some .a, capture := some Config.factory, newGeneration := some 1 } }

theorem meets_LinkConfigAndSubscribeSet :
    (parseLinkConfig [3] = some .baud460800 ∧ parseSubscribe [0x1F, 0xFF] = some (BitVec.allOnes 13))
    ∧ saving.profile.saveState ≠ .idle ∧ State.reset.profile.saveState = .idle
    ∧ Dispatches (asked .linkConfig [3] saving) .linkConfig (entryOf .linkConfig [3])
    ∧ Dispatches (asked .subscribe [0x1F, 0xFF] State.reset) .subscribe (entryOf .subscribe [0x1F, 0xFF]) :=
  ⟨by decide, by decide, by decide, asked_dispatches _ _ _ rfl, asked_dispatches _ _ _ rfl⟩

theorem meets_SessionOpensAndCloses :
    (parseSessionOpen [0, 100] = some 100 ∧ parseSessionOpen [0, 0] = some 0)
    ∧ Dispatches (asked .sessionOpen [0, 100] State.reset) .sessionOpen (entryOf .sessionOpen [0, 100])
    ∧ Dispatches { asked .sessionOpen [0, 100] State.reset with notices := State.reset.notices } .sessionOpen
        (entryOf .sessionOpen [0, 100])
    ∧ Dispatches (asked .sessionClose [] State.reset) .sessionClose (entryOf .sessionClose []) :=
  ⟨by decide, asked_dispatches _ _ _ rfl, ⟨rfl, rfl, rfl, rfl, rfl, fun h => nomatch h⟩, asked_dispatches _ _ _ rfl⟩

theorem meets_NoticeAckRemoves :
    let s := asked .noticeAck [0, 1] (noted [note 0 .urgent .inFlight false, note 1 .urgent .inFlight false])
    (Dispatches s .noticeAck (entryOf .noticeAck [0, 1]) ∧ parseNumber [0, 1] = some 1)
    ∧ s.notices.queue = [note 0 .urgent .inFlight false] ++ note 1 .urgent .inFlight false :: []
    ∧ ∀ x ∈ (noted [note 1 .urgent .offered true]).notices.queue, ¬(x.nseq = 1 ∧ x.delivery = .inFlight) :=
  ⟨⟨asked_dispatches _ _ _ rfl, by decide⟩, rfl, by decide⟩

/-- A CHANNEL_CONFIG payload for CH0: enabled, class 0, 40 W, report window 128. -/
def configPayload : List Byte :=
  [0, 1, 0, 0, 40, 3, 232, 0, 50, 90, 19, 136, 1, 3, 232, 7, 0, 60, 11, 184, 0, 0, 0, 128]

theorem meets_ChannelConfigReplaces :
    ((parseChannelConfig configPayload).map fun x => (x.1, x.2.allowance, x.2.reportWindow)) = some (.ch0, 40, 128)
    ∧ Dispatches (asked .channelConfig configPayload State.reset) .channelConfig (entryOf .channelConfig configPayload)
    ∧ saving.profile.saveState ≠ .idle
    ∧ ((at0 .on).profile.saveState = .idle ∧ ((at0 .on).chan .ch0).state = .on)
    ∧ ((at0 .latched).profile.saveState = .idle ∧ ((at0 .latched).chan .ch0).state = .latched) :=
  ⟨by decide, asked_dispatches _ _ _ rfl, by decide, by decide, by decide⟩

theorem meets_ChannelOnOutcomes :
    (parseChan [0] = some .ch0 ∧ parseChan [7] = some .ch7)
    ∧ Dispatches (asked .channelOn [0] (at0 .off)) .channelOn (entryOf .channelOn [0])
    ∧ ((with0 (at0 .off) fun k => { k with cfg := { k.cfg with allowance := 200 } }).chan .ch0).cfg.allowance
        ≤ (at0 .off).budget.settings.limit
    ∧ (at0 .off).budget.settings.limit
        < ((with0 (at0 .off) fun k => { k with cfg := { k.cfg with allowance := 201 } }).chan .ch0).cfg.allowance
    ∧ (∀ st ∈ [ChState.off, .queued, .starting, .on, .cycleOff, .cooldown, .latched, .disabled],
        ((at0 st).chan .ch0).state = st ∧ ((at0 st).chan .ch0).cyclePending = none)
    ∧ ((with0 (at0 .on) fun k => { k with cyclePending := some 3 }).chan .ch0).cyclePending ≠ none :=
  ⟨by decide, asked_dispatches _ _ _ rfl, by decide, by decide, by decide, by decide⟩

theorem meets_ChannelOffOutcomes :
    Dispatches (asked .channelOff [0] (at0 .queued)) .channelOff (entryOf .channelOff [0])
    ∧ (∀ st ∈ [ChState.queued, .starting, .on, .cycleOff, .cooldown],
        ((at0 st).chan .ch0).state ≠ .off ∧ ((at0 st).chan .ch0).state ≠ .latched ∧ ((at0 st).chan .ch0).state ≠ .disabled)
    ∧ ∀ st ∈ [ChState.off, .latched, .disabled], ((at0 st).chan .ch0).state = st :=
  ⟨asked_dispatches _ _ _ rfl, by decide, by decide⟩

theorem meets_ChannelCycleAndClear :
    Dispatches (asked .channelCycle [0] (at0 .on)) .channelCycle (entryOf .channelCycle [0])
    ∧ Dispatches (asked .channelClear [7] (at0 .latched)) .channelClear (entryOf .channelClear [7])
    ∧ (∀ st ∈ [ChState.on, .cycleOff, .starting, .queued, .off, .cooldown, .latched, .disabled],
        ((at0 st).chan .ch0).state = st ∧ ((at0 st).chan .ch0).cyclePending = none)
    ∧ ((with0 (at0 .on) fun k => { k with cyclePending := some 3 }).chan .ch0).cyclePending ≠ none :=
  ⟨asked_dispatches _ _ _ rfl, asked_dispatches _ _ _ rfl, by decide, by decide⟩

/-- BUDGET_CONFIG payloads: limit 40 W (what CH0 of `lit` holds) and 39 W, without and with FORCE. -/
def budgetPayload (limit force : Byte) : List Byte := [0, limit, 15, 1, 0, 10, 0x23, 0x28, force]

theorem meets_BudgetConfigOutcomes :
    let b (limit : Nat) : BudgetSettings :=
      { limit := limit, bypassLimit := 15, slots := 1, overloadHold := 10, busMinimum := 9000 }
    let slots2 : State := { lit with budget := { lit.budget with
      records := (PerChan.ofFn fun _ => some { rec40 0 0 .starting with slot := true, amount := 1 }) } }
    (parseBudgetConfig (budgetPayload 39 0) = some (b 39, false) ∧ parseBudgetConfig (budgetPayload 39 1) = some (b 39, true)
      ∧ parseBudgetConfig (budgetPayload 40 0) = some (b 40, false))
    ∧ Dispatches (asked .budgetConfig (budgetPayload 39 1) lit) .budgetConfig (entryOf .budgetConfig (budgetPayload 39 1))
    ∧ saving.profile.saveState ≠ .idle
    ∧ (slots2.profile.saveState = .idle ∧ (b 39).slots < slots2.budget.slotsInUse)
    ∧ (lit.budget.slotsInUse ≤ (b 39).slots ∧ (b 39).limit < lit.budget.committed)
    ∧ lit.budget.committed ≤ (b 40).limit
    ∧ BudgetAgrees (asked .budgetConfig (budgetPayload 39 1) lit) :=
  ⟨by decide, asked_dispatches _ _ _ rfl, by decide, by decide, by decide, by decide, lit_budgetAgrees⟩

/-- A watch record in use: CH0 current, a window of one round, 1,000 to 2,000 mA. -/
def watch1 (level : WatchLevel) (mode : FlagMode) (action : WatchAction) (window : Nat) : Watch :=
  { cfg := { source := .chan .ch0, quantity := .current, window := window, upper := 2000, lower := 1000, mode := mode
             action := action }
    level := level, raised := false, rises := 65535, count := 0, sum := 0, overFlag := false
    last := { valid := false, value := 0, overFlag := false, stamp := 0 } }

/-- Reset with record 15 in use. -/
def watched (w : Watch) : State := { State.reset with watches := State.reset.watches.set 15 (some w) }

theorem meets_WatchRequestsWrite :
    ((parseWatchSet [15, 0, 0, 1, 0, 0, 7, 208, 0, 0, 3, 232, 0, 0, 0xFF]).map (·.1) = some 15
      ∧ parseRecord [15] = some 15 ∧ parseRecord [0] = some 0)
    ∧ Dispatches (asked .watchSet [15, 0, 0, 1, 0, 0, 7, 208, 0, 0, 3, 232, 0, 0, 0xFF] State.reset) .watchSet
        (entryOf .watchSet [15, 0, 0, 1, 0, 0, 7, 208, 0, 0, 3, 232, 0, 0, 0xFF])
    ∧ Dispatches (asked .watchDelete [15] saving) .watchDelete (entryOf .watchDelete [15])
    ∧ Dispatches (asked .watchClear [15] saving) .watchClear (entryOf .watchClear [15])
    ∧ saving.profile.saveState ≠ .idle ∧ State.reset.profile.saveState = .idle ∧ State.reset.watchAt 15 = none
    ∧ (watched (watch1 .high .live .notify 1)).watchAt 15 = some (watch1 .high .live .notify 1) :=
  ⟨by decide, asked_dispatches _ _ _ rfl, asked_dispatches _ _ _ rfl, asked_dispatches _ _ _ rfl, by decide, by decide,
    by decide, by decide⟩

/-- A SCHED_ADD payload of tag 9: ON for CH0, one-shot. -/
def addPayload (form : Byte) (time : Byte) : List Byte := [0, 9, 0, 0, 0, 0, 0, 0, form, 0, 0, 0, 0, 0, time]

/-- A schedule entry. -/
def sched (tag due period : Nat) : SchedEntry :=
  { tag := tag, chan := .ch0, action := .on, due := due, period := period, insertion := 0, missed := 0 }

/-- Reset with a schedule list. -/
def listed (l : List SchedEntry) : State := { State.reset with schedule := l }

theorem meets_SchedAddPlaces :
    ((parseSchedAdd (addPayload 0 1)).map fun f => (f.tag, f.form, f.time, f.period)) = some (9, .delay, 1, 0)
    ∧ Dispatches (asked .schedAdd (addPayload 0 1) State.reset) .schedAdd (entryOf .schedAdd (addPayload 0 1))
    ∧ (∃ x ∈ (listed [sched 9 5 0]).schedule, x.tag = 9)
    ∧ ((∀ x ∈ (listed (List.replicate 32 (sched 8 5 0))).schedule, x.tag ≠ 9)
      ∧ 32 ≤ (listed (List.replicate 32 (sched 8 5 0))).schedule.length)
    ∧ ((∀ x ∈ (listed (List.replicate 31 (sched 8 5 0))).schedule, x.tag ≠ 9 ∧ (0 : Nat) < x.due)
      ∧ (listed (List.replicate 31 (sched 8 5 0))).schedule.length < 32 ∧ State.reset.uptime < State.reset.uptime + 1 + 1)
    ∧ ((∀ x ∈ (listed [sched 8 0 0]).schedule, x.tag ≠ 9) ∧ (sched 8 0 0).due ≤ State.reset.uptime)
    ∧ (State.reset.schedule = []
      ∧ ((parseSchedAdd (addPayload 1 0)).map fun f => (f.form, f.time, f.period)) = some (.absolute, 0, 0))
    ∧ (State.reset.schedule = []
      ∧ ((parseSchedAdd [0, 9, 0, 0, 0, 0, 0, 1, 0, 0, 0, 0, 0, 0, 0]).map fun f => (f.form, f.time, f.period))
        = some (.delay, 0, 1)) :=
  ⟨by decide, asked_dispatches _ _ _ rfl, by decide, by decide, by decide, by decide, by decide, by decide⟩

theorem meets_SchedCancelRemoves :
    Dispatches (asked .schedCancel [0, 9] (listed [sched 8 1 0, sched 9 2 0])) .schedCancel (entryOf .schedCancel [0, 9])
    ∧ parseNumber [0, 9] = some 9
    ∧ ((listed [sched 8 1 0, sched 9 2 0]).schedule = [sched 8 1 0] ++ sched 9 2 0 :: []
      ∧ ∀ y ∈ [sched 8 1 0], y.tag ≠ 9)
    ∧ ∀ x ∈ (listed [sched 8 1 0]).schedule, x.tag ≠ 9 := ⟨asked_dispatches _ _ _ rfl, by decide, by decide, by decide⟩

theorem meets_SaveAndRestartBegin :
    Dispatches (asked .profileSave [] State.reset) .profileSave (entryOf .profileSave [])
    ∧ Dispatches (asked .restart [] State.reset) .restart (entryOf .restart [])
    ∧ saving.profile.saveState ≠ .idle
    ∧ ({ State.reset.profile with restartPending := some 4 } : Profile).restartPending ≠ none
    ∧ (State.reset.profile.saveState = .idle ∧ State.reset.profile.restartPending = none) :=
  ⟨asked_dispatches _ _ _ rfl, asked_dispatches _ _ _ rfl, by decide, by decide, by decide⟩

theorem meets_SupplyLossAndReturn : ∀ c, (State.reset.profile.start.loaded.channels.get c).cls ≤ 3 := by
  intro c
  cases c <;> decide

theorem meets_LinesStartTheirTimers :
    (State.reset.powered = true ∧ State.reset.pins.receive = .high)
    ∧ ({ State.reset with pins := { State.reset.pins with receive := .low } } : State).pins.receive = .low := by decide

theorem meets_RestartsBegin :
    let s : State :=
      { State.reset with
        pins := { State.reset.pins with reset := .asserted }
        profile := { State.reset.profile with resetFilter := some 0, restartPending := some 5 }
        link := { State.reset.link with signals := [{ target := .restart, request := 5, fate := .sent }] } }
    (s.powered = true ∧ s.profile.resetFilter = some 0 ∧ 0 ≤ s.uptime ∧ s.profile.resetLevel = .released
      ∧ s.pins.reset = .asserted)
    ∧ ¬(State.reset.profile.resetLevel = .released ∧ State.reset.pins.reset = .asserted)
    ∧ ({ target := .restart, request := 5, fate := .sent } ∈ s.link.signals ∧ s.profile.restartPending = some 5)
    ∧ State.reset.profile.restartPending ≠ some 5 := by decide

/-- R42, R133: no filter timer has more than its length to run after a restart, here one in the millisecond of its start. -/
theorem test_filter_timer_rebased :
    rebase (some 8) shedFilterTime 5 = some 2 ∧ rebase (some 8) shedFilterTime 7 = some 1
    ∧ rebase (some 7) resetFilterTime 5 = some 1 := by decide

theorem meets_ControllerRestartTable :
    let stored (f : ChannelConfig → ChannelConfig) : WorkingConfig :=
      { Config.factory with channels := PerChan.ofFn fun _ => f Config.factoryChannel }
    (∀ c, (State.reset.profile.start.loaded.channels.get c).cls ≤ 3)
    ∧ (State.reset.profile.start.loaded.channels.get .ch0).enabled = false
    ∧ (∀ w g, (Profile.loaded { State.reset.profile with
        storeA := some { generation := g, contents := w, check := Config.crc32 g w } }.start) = w)
    ∧ (∀ c, ((stored fun k => { k with enabled := true, allowance := 201 }).channels.get c).cls ≤ 3)
    ∧ ((stored fun k => { k with enabled := true, allowance := 201 }).channels.get .ch0).enabled = true
    ∧ (stored fun k => k).budget.limit < ((stored fun k => { k with enabled := true, allowance := 201 }).channels.get .ch0).allowance
    ∧ (lit.chan .ch0).state = .on ∧ State.reset.budget.shedLevel = .released
    ∧ (stored fun k => k).subscriptions.getLsbD 12 = true
    ∧ (∀ st, ((at0 st).chan .ch0).state = st) := by
  refine ⟨fun c => by cases c <;> decide, by decide, fun w g => ?_, fun c => by cases c <;> decide, by decide, by decide, by decide,
    by decide, by decide, fun st => by cases st <;> rfl⟩
  simp [Profile.loaded, Profile.start, checkCopy, chooseCopy, State.reset, Profile.store]

theorem meets_ShedEvents :
    let s : State :=
      { lit with
        pins := { lit.pins with shed := .asserted }
        budget := { lit.budget with
          shedFilter := some 0, holdTimer := some 0
          records := lit.budget.records.set .ch1 (some (rec40 1 0 .on)) } }
    (s.powered = true ∧ s.budget.shedFilter = some 0 ∧ 0 ≤ s.uptime ∧ s.budget.shedLevel = .released
      ∧ s.pins.shed = .asserted ∧ s.budget.records.get .ch0 = some (rec40 0 0 .on)
      ∧ s.budget.records.get .ch1 = some (rec40 1 0 .on))
    ∧ (({ s.budget with shedLevel := .asserted } : Budget).shedLevel = .asserted ∧ State.reset.pins.shed = .released)
    ∧ ({ s.budget with shedLevel := .asserted } : Budget).shedLevel = s.pins.shed
    ∧ ((s.chan .ch0).cfg.afterShed = .requeue ∧ (s.chan .ch0).cfg.allowance ≤ s.budget.settings.limit)
    ∧ (∀ c ∈ Chan.all, ∀ r ∈ lit.budget.records.get c, ¬(1 ≤ r.cls ∧ r.phase = .on))
    ∧ (s.budget.holdTimer = some 0
      ∧ s.budget.firstInRank (fun x => decide (1 ≤ x.cls) && decide (x.phase = .on)) = some (.ch1, rec40 1 0 .on)) := by
  decide

theorem meets_RoundCompletes :
    State.reset.powered = true ∧ State.reset.sampler.round = some 0
    ∧ (∀ c ∈ Chan.all, (State.reset.sampler.blocks.get c).count + 1 < (State.reset.sampler.blocks.get c).window)
    ∧ (Block.start 1).window ≤ (Block.start 1).count + 1 := by decide

theorem meets_SamplePowerIsExact :
    State.reset.powered = true ∧ State.reset.sampler.round = some 0
    ∧ (32766 : Nat) < 32767 ∧ 32767 ≤ ({ current := 32767, voltage := 65535 } : Reading).current
    ∧ 65535 ≤ ({ current := 32767, voltage := 65535 } : Reading).voltage := by decide

/-- A channel sample of 4,000 mA with the output at 90 % of a good bus. -/
def sampleUp : Sample := { current := 4000, overFlag := false, voltage := 9000, power := 36000, bus := 10000, stamp := 0 }

theorem meets_SamplesTaken :
    let s : State := { at0 .starting with
      deliveries := { Deliveries.empty with
        toChannels := Deliveries.empty.toChannels.set .ch0 [sampleUp]
        toBudget := [{ voltage := 10000, total := 16, totalOver := false, stamp := 0 }] } }
    (s.powered = true ∧ s.deliveries.toChannels.get .ch0 = sampleUp :: [] ∧ (s.chan .ch0).state = .starting
      ∧ (s.chan .ch0).cfg.goodLevel * sampleUp.bus ≤ sampleUp.voltage * 100 ∧ s.budget.settings.busMinimum ≤ sampleUp.bus)
    ∧ ((at0 .on).chan .ch0).state ≠ .starting
    ∧ (s.deliveries.toBudget = { voltage := 10000, total := 16, totalOver := false, stamp := 0 } :: []
      ∧ ({ s.budget with overCount := 14 } : Budget).overCount + 1 < 16
      ∧ 16 ≤ ({ s.budget with overCount := 15 } : Budget).overCount + 1) := by decide

/-- A round in which CH0 takes so many mA. -/
def roundOf0 (current : Nat) : Round :=
  { Round.zero with samples := Round.zero.samples.set .ch0 { Sample.zero with current := current } }

theorem meets_WatchesTakeRound :
    ({ State.reset with deliveries := { Deliveries.empty with toWatch := [roundOf0 1] } } : State).deliveries.toWatch
      = roundOf0 1 :: []
    ∧ State.reset.watchAt 15 = none
    ∧ ((watched (watch1 .low .live .notify 2)).watchAt 15 = some (watch1 .low .live .notify 2)
      ∧ (watch1 .low .live .notify 2).count + 1 < (watch1 .low .live .notify 2).cfg.window)
    ∧ ((watched (watch1 .low .live .notify 1)).watchAt 15 = some (watch1 .low .live .notify 1)
      ∧ (watch1 .low .live .notify 1).cfg.window ≤ 0 + 1
      ∧ 2000 < (watchValue (watch1 .low .live .notify 1).cfg (roundOf0 2001)).1 / 1)
    ∧ ((watchValue (watch1 .high .live .notify 1).cfg (roundOf0 999)).1 / 1 < 1000
      ∧ (watchValue (watch1 .high .live .notify 1).cfg (roundOf0 999)).2 = false)
    ∧ ((watch1 .high .latched .notify 1).cfg.mode = .latched ∧ (watch1 .high .live .notify 1).cfg.mode = .live)
    ∧ ¬(watchValue (watch1 .high .live .notify 1).cfg (roundOf0 1000)).1 < 1000
    ∧ ¬2000 < (watchValue (watch1 .low .live .notify 1).cfg (roundOf0 2000)).1
    ∧ ((watch1 .low .live .notify 1).cfg.action = .notify ∧ (watch1 .low .live (.latch .ch0) 1).cfg.action ≠ .notify) := by decide

theorem meets_WatchRiseLatches :
    let w := watch1 .low .live (.latch .ch0) 1
    let v := watch1 .low .live (.switchOff .ch7) 1
    (WatchAction.target? w.cfg.action = some .ch0 ∧ w.cfg.action = .latch .ch0 ∧ ((at0 .on).chan .ch0).state ≠ .latched
      ∧ ((at0 .on).chan .ch0).state ≠ .disabled)
    ∧ (WatchAction.target? v.cfg.action = some .ch7 ∧ v.cfg.action = .switchOff .ch7)
    ∧ (∀ st ∈ [ChState.queued, .starting, .on, .cycleOff, .cooldown],
        ((at0 st).chan .ch0).state ≠ .off ∧ ((at0 st).chan .ch0).state ≠ .latched ∧ ((at0 st).chan .ch0).state ≠ .disabled)
    ∧ ∀ st ∈ [ChState.off, .latched, .disabled], ((at0 st).chan .ch0).state = st := by decide

theorem meets_MeterTakesRound :
    ({ State.reset with deliveries := { Deliveries.empty with toMeter := [roundOf0 1] } } : State).deliveries.toMeter
      = roundOf0 1 :: []
    ∧ (State.reset.meter.energy.get .ch0).full = false
    ∧ ({ State.reset.meter.energy.get .ch0 with full := true, count := 16777215 } : Accumulator).full = true := by decide

theorem meets_ComparatorActs :
    (lit.powered = true ∧ (lit.chan .ch0).comparator.armed = true) ∧ (State.reset.chan .ch0).comparator.armed = false
    ∧ ((with0 lit fun k => { k with comparator := { k.comparator with filterRunning := true } }).chan
        .ch0).comparator.filterRunning = true
    ∧ ¬((lit.chan .ch0).comparator.armed = true ∧ (lit.chan .ch0).comparator.filterRunning = true) := by decide

theorem meets_FaultsHandled :
    let hit := with0 lit fun k => { k with trips := [0, 1] }
    let slow := with0 (at0 .starting) fun k => { k with timer := .start 0 }
    (hit.powered = true ∧ 1 ∈ (hit.chan .ch0).trips ∧ (hit.chan .ch0).state = .on
      ∧ (hit.chan .ch0).comparator.armingNumber = 1)
    ∧ (0 ∈ (hit.chan .ch0).trips ∧ ¬((hit.chan .ch0).state = .on ∧ (hit.chan .ch0).comparator.armingNumber = 0))
    ∧ ((slow.chan .ch0).state = .starting ∧ (slow.chan .ch0).timer = .start 0 ∧ 0 ≤ slow.uptime)
    ∧ ((slow.chan .ch0).retryCount < (slow.chan .ch0).cfg.retryLimit)
    ∧ ¬((with0 slow fun k => { k with retryCount := 2 }).chan .ch0).retryCount < (slow.chan .ch0).cfg.retryLimit := by decide

theorem meets_ChannelTimersExpire :
    let timed (st : ChState) (t : ChTimer) := with0 (at0 st) fun k => { k with timer := t }
    (State.reset.powered = true ∧ 0 ≤ State.reset.uptime)
    ∧ (((timed .on (.retryWindow 0)).chan .ch0).state = .on
      ∧ ((timed .on (.retryWindow 0)).chan .ch0).timer = .retryWindow 0)
    ∧ (((timed .cycleOff (.cycle 0)).chan .ch0).state = .cycleOff ∧ ((timed .cycleOff (.cycle 0)).chan .ch0).timer = .cycle 0)
    ∧ (((timed .cooldown (.cooldown 0)).chan .ch0).timer = .cooldown 0
      ∧ ((timed .cooldown (.cooldown 0)).chan .ch0).cfg.allowance ≤ State.reset.budget.settings.limit)
    ∧ State.reset.budget.settings.limit
        < ((with0 (timed .cooldown (.cooldown 0)) fun k => { k with cfg := { k.cfg with allowance := 201 } }).chan
            .ch0).cfg.allowance := by decide

theorem meets_GrantsTaken :
    let r : Reservation := { rec40 0 0 .starting with slot := true }
    let granted (st : ChState) (g : Grant) : State :=
      { with0 (at0 st) fun k => { k with cycleReturnWaiting := decide (st = .cycleOff) } with
        budget := { State.reset.budget with
          grants := [g], records := State.reset.budget.records.set .ch0 (some r) } }
    let q := granted .queued (.queue .ch0 0)
    let c := granted .cycleOff (.cycleReturn .ch0 0)
    (q.powered = true ∧ Grant.queue .ch0 0 ∈ q.budget.grants ∧ (q.chan .ch0).state = .queued ∧ (q.chan .ch0).joinNumber = 0
      ∧ q.budget.records.get .ch0 = some r ∧ r.phase = .starting ∧ r.grantTaken = false)
    ∧ (Grant.queue .ch0 65535 ∈ (granted .queued (.queue .ch0 65535)).budget.grants ∧ (q.chan .ch0).joinNumber ≠ 65535)
    ∧ (Grant.cycleReturn .ch0 0 ∈ c.budget.grants ∧ (c.chan .ch0).state = .cycleOff
      ∧ (c.chan .ch0).cycleReturnWaiting = true ∧ (c.chan .ch0).claimNumber = 0 ∧ c.budget.records.get .ch0 = some r)
    ∧ (Grant.cycleReturn .ch0 65535 ∈ (granted .cycleOff (.cycleReturn .ch0 65535)).budget.grants
      ∧ (c.chan .ch0).claimNumber ≠ 65535) := by decide

theorem meets_CycleSignalsTaken :
    let x : ReplySignal := { target := .cycle .ch0, request := 5, fate := .discarded }
    let s : State := { with0 lit fun k => { k with cyclePending := some 5 } with
      link := { State.reset.link with signals := [x] } }
    (s.powered = true ∧ x ∈ s.link.signals ∧ (s.chan .ch0).state = .on ∧ (s.chan .ch0).cyclePending = some 5)
    ∧ ¬((lit.chan .ch0).state = .on ∧ (lit.chan .ch0).cyclePending = some 5) := by decide

theorem meets_DuePassFires :
    (State.reset.powered = true ∧ ∀ x ∈ (listed [sched 1 1 0]).schedule, State.reset.uptime < x.due)
    ∧ ((listed [sched 1 0 0, sched 2 1 0]).schedule = sched 1 0 0 :: [sched 2 1 0] ∧ (sched 1 0 0).due ≤ State.reset.uptime
      ∧ (∀ x ∈ [sched 2 1 0], State.reset.uptime < x.due) ∧ (sched 1 0 0).period = 0 ∧ 1 ≤ (sched 1 0 1).period)
    ∧ (listed [sched 1 0 0, sched 2 1 0]).schedule.Pairwise (fun x y => x.due ≤ y.due)
    ∧ ((sched 1 0 0).action = .on ∧ ({ sched 1 0 0 with action := .off } : SchedEntry).action = .off
      ∧ ({ sched 1 0 0 with action := .cycle } : SchedEntry).action = .cycle)
    ∧ (∀ st ∈ [ChState.off, .queued, .starting, .on, .cycleOff, .cooldown, .latched, .disabled],
        ((at0 st).chan .ch0).state = st ∧ ((at0 st).chan .ch0).cyclePending = none)
    ∧ ((with0 (at0 .on) fun k => { k with cyclePending := some 3 }).chan .ch0).cyclePending ≠ none
    ∧ ((with0 (at0 .off) fun k => { k with cfg := { k.cfg with allowance := 200 } }).chan .ch0).cfg.allowance
        ≤ (at0 .off).budget.settings.limit
    ∧ (at0 .off).budget.settings.limit
        < ((with0 (at0 .off) fun k => { k with cfg := { k.cfg with allowance := 201 } }).chan .ch0).cfg.allowance := by decide

theorem meets_SaveEnds :
    let whole : StoredCopy := { generation := 1, contents := Config.factory, check := Config.crc32 1 Config.factory }
    let verifying : State := { saving with profile := { saving.profile with saveState := .verifying, storeA := some whole } }
    (saving.powered = true ∧ saving.profile.target = some .a ∧ saving.profile.capture = some Config.factory
      ∧ saving.profile.saveState = .writing)
    ∧ (verifying.profile.saveState = .verifying ∧ verifying.profile.newGeneration = some 1
      ∧ verifying.profile.writeFailed = false ∧ verifying.profile.store .a = some whole)
    ∧ ({ verifying.profile with newGeneration := none } : Profile).newGeneration = none
    ∧ ({ verifying.profile with writeFailed := true } : Profile).writeFailed = true
    ∧ saving.profile.store .a ≠ some whole :=
  ⟨⟨rfl, rfl, rfl, rfl⟩, ⟨rfl, rfl, rfl, rfl⟩, rfl, rfl, nofun⟩

theorem meets_ReceiverTakesCharacters :
    (State.reset.powered = true ∧ State.reset.link.breakWait = false ∧ State.reset.link.receiver = .hunt)
    ∧ ({ State.reset.link with breakWait := true } : Link).breakWait = true
    ∧ (0xA4 : Byte) ≠ 0xA5
    ∧ (2 ≤ (2 : Byte).toNat ∧ (250 : Byte).toNat ≤ 250) ∧ ((1 : Byte).toNat < 2 ∧ 250 < (251 : Byte).toNat)
    ∧ ([(1 : Byte)].length + 1 < (3 : Byte).toNat ∧ (2 : Byte).toNat ≤ [(1 : Byte)].length + 1)
    ∧ (({ State.reset.link with receiver := .check 2 [1, 2] none, gapTimer := some 0 } : Link).receiver ≠ .hunt
      ∧ ({ State.reset.link with receiver := .check 2 [1, 2] none, gapTimer := some 0 } : Link).gapTimer = some 0) := by decide

set_option maxRecDepth 20000 in
theorem meets_FramesComplete :
    let crc := crc16 [2, 0x0A, 7]
    let e : ReqEntry := { entryOf .ping [] with crc := crc }
    let k : KeptReply := { kind := 0x0A, seq := 7, crc := crc, reply := [] }
    let s (q : List ReqEntry) (l : List KeptReply) : State :=
      { State.reset with
        link := { State.reset.link with receiver := .check 2 [0x0A, 7] (some (crc.extractLsb' 8 8)), queue := q, replyList := l } }
    ((s [] []).powered = true ∧ (s [] []).link.breakWait = false
      ∧ (s [] []).link.receiver = .check 2 (0x0A :: 7 :: []) (some (crc.extractLsb' 8 8)))
    ∧ crc = crc.extractLsb' 8 8 ++ crc.extractLsb' 0 8
    ∧ crc ≠ crc.extractLsb' 8 8 ++ (crc.extractLsb' 0 8 + 1#8)
    ∧ (∃ x ∈ (s [e] []).link.queue, x.kind = 0x0A ∧ x.seq = 7 ∧ x.crc = crc)
    ∧ (4 ≤ (s (List.replicate 4 (entryOf .restart [])) []).link.queue.length
      ∧ ¬∃ x ∈ (s (List.replicate 4 (entryOf .restart [])) []).link.queue, x.kind = 0x0A ∧ x.seq = 7 ∧ x.crc = crc)
    ∧ ((s (List.replicate 3 (entryOf .restart [])) [k]).link.queue.length < 4
      ∧ [k].find? (fun y => y.kind == 0x0A && y.seq == 7 && y.crc == crc) = some k)
    ∧ (s [] []).link.replyList = [] := by decide

theorem meets_BreakRestartsLink :
    let s (x : Bool) : State :=
      { State.reset with
        link := { State.reset.link with breakTimer := some 0 }, notices := { State.reset.notices with sessionOpen := x } }
    ((s true).powered = true ∧ (s true).link.breakTimer = some 0 ∧ 0 ≤ (s true).uptime ∧ (s true).notices.sessionOpen = true)
    ∧ (s false).notices.sessionOpen = false := by decide

theorem meets_FrameLeaves :
    let s (tx : Tx) (q : List ReqEntry) : State := { State.reset with link := { State.reset.link with tx := tx, queue := q } }
    ((s (.reply [1]) [entryOf .ping []]).powered = true ∧ (s (.reply [1]) [entryOf .ping []]).link.tx = .reply [1]
      ∧ (s (.reply [1]) [entryOf .ping []]).link.queue = entryOf .ping [] :: [])
    ∧ (s (.notice 65535 [1] true) []).link.tx = .notice 65535 [1] true ∧ (s .idle []).link.tx = .idle := by decide

theorem meets_DeliveryEvents :
    let s (f : Notices → Notices) : State :=
      { State.reset with
        link := { State.reset.link with validSignals := 1 }
        notices := f { State.reset.notices with
          sessionOpen := true, sentSignals := [0], queue := [note 0 .urgent .offered false], ackTimer := some 0 } }
    ((s id).powered = true ∧ 0 < (s id).link.validSignals)
    ∧ ¬((s id).notices.sessionOpen = true ∧ (s id).notices.stalled = true)
    ∧ ((s fun u => { u with stalled := true }).notices.sessionOpen = true
      ∧ (s fun u => { u with stalled := true }).notices.stalled = true)
    ∧ (0 ∈ (s id).notices.sentSignals ∧ ∃ n ∈ (s id).notices.queue, n.nseq = 0 ∧ n.delivery ≠ .unsent)
    ∧ (∀ n ∈ (noted [note 0 .urgent .unsent false]).notices.queue, ¬(n.nseq = 0 ∧ n.delivery ≠ .unsent))
    ∧ ((s id).notices.ackTimer = some 0 ∧ 0 ≤ (s id).uptime ∧ (s fun u => { u with resend := 2 }).notices.resend < 3
      ∧ (s fun u => { u with resend := 2 }).notices.stalled = false)
    ∧ 3 ≤ (s fun u => { u with resend := 3 }).notices.resend
    ∧ (s fun u => { u with stalled := true }).notices.ackTimer = some 0 := by decide

theorem meets_KeepaliveLosesHost :
    let s : State :=
      { with0 lit fun k => { k with cfg := { k.cfg with hostLoss := .switchOff } } with
        notices := { State.reset.notices with sessionOpen := true, keepaliveTimer := some 0 } }
    (s.powered = true ∧ s.notices.sessionOpen = true ∧ s.notices.keepaliveTimer = some 0 ∧ 0 ≤ s.uptime)
    ∧ ((s.chan .ch0).cfg.hostLoss = .switchOff ∧ (s.chan .ch0).state = .on)
    ∧ (s.chan .ch1).cfg.hostLoss = .hold := by decide

end Sys2Proof.Tests
end

section
/-! Proofs: the Sampler. What the completion of a round leaves as the latest round, what a sample record holds within scale and over
range (R70, R71), and O43 from these. -/

namespace Sys2Proof.Machine

/-! The completion of a round. -/

theorem exec_roundComplete (r : Readings) (s : State) : exec (.roundComplete r) s = live (·.completeRound r) s := rfl

theorem State.completeRound_of_running {s : State} {stamp : Nat} (r : Readings) (h : s.sampler.round = some stamp) :
    s.completeRound r =
      { s.afterBoundary with
        sampler := s.sampler.complete (roundOf stamp r), deliveries := s.deliveries.push (roundOf stamp r) } := by
  simp only [State.completeRound, h]

theorem State.completeRound_latest {s : State} {stamp : Nat} (r : Readings) (h : s.sampler.round = some stamp) :
    (s.completeRound r).sampler.latest = roundOf stamp r := by
  rw [State.completeRound_of_running r h]
  rfl

theorem roundOf_sample (stamp : Nat) (r : Readings) (c : Chan) :
    (roundOf stamp r).samples.get c = sampleOf (min r.bus fullVoltage) stamp (r.chans.get c) :=
  PerChan.get_ofFn _ c

/-! A sample record (R70, R71). -/

section
variable (bus stamp : Nat) {q : Reading}

theorem sampleOf_power (q : Reading) :
    (sampleOf bus stamp q).power = (sampleOf bus stamp q).current * (sampleOf bus stamp q).voltage / 1000 := rfl

theorem sampleOf_current_le_full (q : Reading) : (sampleOf bus stamp q).current ≤ fullCurrent := Nat.min_le_right ..

theorem sampleOf_voltage_le_full (q : Reading) : (sampleOf bus stamp q).voltage ≤ fullVoltage := Nat.min_le_right ..

theorem sampleOf_current_in_range (h : q.current < fullCurrent) : (sampleOf bus stamp q).current = q.current :=
  Nat.min_eq_left h.le

theorem sampleOf_current_over_range (h : fullCurrent ≤ q.current) : (sampleOf bus stamp q).current = fullCurrent :=
  Nat.min_eq_right h

theorem sampleOf_voltage_over_range (h : fullVoltage ≤ q.voltage) : (sampleOf bus stamp q).voltage = fullVoltage :=
  Nat.min_eq_right h

theorem samplePower_mono {a a' v v' : Nat} (ha : a ≤ a') (hv : v ≤ v') : samplePower a v ≤ samplePower a' v' :=
  Nat.div_le_div_right (Nat.mul_le_mul ha hv)

/-- The greatest power of R71. -/
theorem samplePower_full : samplePower fullCurrent fullVoltage = 2147385 := by decide

theorem sampleOf_power_le_greatest (q : Reading) : (sampleOf bus stamp q).power ≤ 2147385 :=
  calc (sampleOf bus stamp q).power
    _ ≤ samplePower fullCurrent fullVoltage :=
        samplePower_mono (sampleOf_current_le_full bus stamp q) (sampleOf_voltage_le_full bus stamp q)
    _ = 2147385 := samplePower_full

theorem sampleOf_power_over_range (h : fullCurrent ≤ q.current) :
    (sampleOf bus stamp q).power = samplePower fullCurrent (sampleOf bus stamp q).voltage := by
  rw [sampleOf_power, sampleOf_current_over_range bus stamp h, samplePower]

theorem sampleOf_power_over_range_le (h : fullCurrent ≤ q.current) :
    (sampleOf bus stamp q).power ≤ samplePower q.current (sampleOf bus stamp q).voltage := by
  rw [sampleOf_power_over_range bus stamp h]
  exact samplePower_mono h le_rfl

theorem sampleOf_power_full_scale (ha : fullCurrent ≤ q.current) (hv : fullVoltage ≤ q.voltage) :
    (sampleOf bus stamp q).power = 2147385 := by
  rw [sampleOf_power_over_range bus stamp ha, sampleOf_voltage_over_range bus stamp hv, samplePower_full]

end

/-- Settles O43: each sample of the completed round is `sampleOf` its reading, and the lemmas of `sampleOf` give its power. -/
theorem samplePowerIsExact : Obligations.SamplePowerIsExact := by
  intro s r stamp hpow hround
  refine ⟨s.completeRound r, by rw [exec_roundComplete, live_powered hpow], fun c => ?_⟩
  rw [State.completeRound_latest r hround, roundOf_sample]
  exact ⟨sampleOf_power _ _ _, sampleOf_current_in_range _ _,
    fun h => ⟨sampleOf_power_over_range _ _ h, sampleOf_power_over_range_le _ _ h⟩,
    sampleOf_power_le_greatest _ _ _, sampleOf_power_full_scale _ _⟩

end Sys2Proof.Machine
end

section
/-! Proofs: the Schedule Unit. What SCHED_CANCEL serves with and without an entry of its tag (R118), and O35 from these. -/

namespace Sys2Proof.Machine

theorem exec_schedCancel (s : State) :
    exec .schedCancel s = live (State.dispatch .schedCancel parseNumber serveSchedCancel) s := rfl

/-- The first entry of the tag leaves the list, and the answer reports it. -/
theorem serveSchedCancel_of_first {s : State} {before behind : List SchedEntry} {x : SchedEntry} {tag : Nat} (id : Nat)
    (hlist : s.schedule = before ++ x :: behind) (htag : x.tag = tag) (hfirst : ∀ y ∈ before, y.tag ≠ tag) :
    serveSchedCancel id tag s = ({ s with schedule := before ++ behind }, answer .ok
      (be 2 tag ++ be 1 x.chan.toNat ++ be 1 (SchedAction.code x.action) ++ be 6 x.due ++ be 4 x.period)) := by
  have hx : (x.tag == tag) = true := beq_iff_eq.2 htag
  have hfound : s.schedule.find? (fun y => y.tag == tag) = some x :=
    List.find?_eq_some_iff_append.2 ⟨hx, before, behind, hlist, by simpa using hfirst⟩
  have herased : s.schedule.eraseP (fun y => y.tag == tag) = before ++ behind := by
    rw [hlist, List.eraseP_append_right _ (by simpa using hfirst)]
    exact congrArg (before ++ ·) (List.eraseP_cons_of_pos hx)
  simp only [serveSchedCancel, hfound, herased]

/-- Without an entry of the tag, the answer is the tag and zeros. -/
theorem serveSchedCancel_of_not_listed {s : State} {tag : Nat} (id : Nat) (hnone : ∀ x ∈ s.schedule, x.tag ≠ tag) :
    serveSchedCancel id tag s = (s, answer .noSuchTag (be 2 tag ++ List.replicate 12 0)) := by
  have hfound : s.schedule.find? (fun y => y.tag == tag) = none :=
    List.find?_eq_none.2 fun y hy => mt beq_iff_eq.1 (hnone y hy)
  have hzeros : be 1 0 ++ be 1 0 ++ be 6 0 ++ be 4 0 = List.replicate 12 0 := by decide
  simp only [serveSchedCancel, hfound, ← hzeros, List.append_assoc]

/-- Settles O35: a dispatched SCHED_CANCEL answers what `serveSchedCancel` leaves, by whether the list holds the tag. -/
theorem schedCancelRemoves : Obligations.SchedCancelRemoves := by
  intro s e tag hdisp hparse
  rw [exec_schedCancel, live_dispatch hdisp hparse]
  constructor
  · intro before x behind hlist htag hfirst
    rw [serveSchedCancel_of_first (s := s.afterBoundary) e.id hlist htag hfirst]
  · intro hnone
    rw [serveSchedCancel_of_not_listed (s := s.afterBoundary) e.id hnone]

end Sys2Proof.Machine
end

section
/-! Proofs: the Link Interface. When LINK_STATUS needs a session (R154, R148 check 3), what it serves with and without clear, and O23
from these. -/

namespace Sys2Proof.Machine

theorem exec_linkStatus (s : State) :
    exec .linkStatus s = live (State.dispatch .linkStatus parseLinkStatus serveLinkStatus) s := rfl

/-- A request that fails check 3 of R148 is answered NO_SESSION. -/
theorem live_dispatch_noSession {α : Type} {k : ReqKind} {parse : List Byte → Option α}
    {serve : Nat → α → State → State × Answer} {s : State} {e : ReqEntry} (hpow : s.powered = true)
    (hdisp : s.dispatchable k.code = some e) (hlen : e.payload.length = k.length)
    (hneeds : k.needsSession e.payload = true) (hclosed : s.notices.sessionOpen = false) :
    live (State.dispatch k parse serve) s = .next (s.afterBoundary.reply e (answer .noSession [])) := by
  rw [live_powered hpow, State.dispatch_some hdisp, State.checked_noSession (s := s.afterBoundary) hlen hneeds hclosed]

/-- The clear bit is the bit that makes LINK_STATUS need a session. -/
theorem needsSession_linkStatus {p : List Byte} {clear : Bool} (h : parseLinkStatus p = some clear) :
    ReqKind.linkStatus.needsSession p = clear := by
  obtain ⟨v, hv, hbit⟩ := Option.map_eq_some_iff.1 h
  obtain ⟨-, ⟨⟩⟩ := Option.ite_none_right_eq_some.1 hv
  exact hbit

theorem serveLinkStatus_read (id : Nat) (s : State) :
    serveLinkStatus id false s = (s, answer .ok (linkStatusFields s.link false)) := rfl

/-- The fields are those of the state before the clear. -/
theorem serveLinkStatus_clear (id : Nat) (s : State) :
    serveLinkStatus id true s =
      ({ s with link := { s.link with stats := ⟨0, 0, 0, 0, 0⟩ } }, answer .ok (linkStatusFields s.link true)) := rfl

/-- Settles O23: the clear bit decides the need of a session, and a served LINK_STATUS answers what `serveLinkStatus` leaves. -/
theorem linkStatusReadsThenClears : Obligations.LinkStatusReadsThenClears := by
  intro s e clear hpow hold hkind hwait hlen hparse
  have hneeds := needsSession_linkStatus hparse
  have hserved (hopen : clear = true → s.notices.sessionOpen = true) :
      exec .linkStatus s =
        .next ((serveLinkStatus e.id clear s.afterBoundary).1.reply e (serveLinkStatus e.id clear s.afterBoundary).2) := by
    rw [exec_linkStatus, live_dispatch ⟨hpow, hold, hkind, hwait, hlen, fun h => hopen (hneeds ▸ h)⟩ hparse]
  refine ⟨?read, ?clear, ?closed⟩
  case read =>
    rintro rfl
    rw [hserved nofun, serveLinkStatus_read]
    rfl
  case clear =>
    rintro rfl hopen
    rw [hserved fun _ => hopen, serveLinkStatus_clear]
    rfl
  case closed =>
    rintro rfl hclosed
    rw [exec_linkStatus, live_dispatch_noSession hpow (State.dispatchable_some hold hkind hwait) hlen hneeds hclosed]

end Sys2Proof.Machine
end

section
/-! Proofs: what each command runs. One equation for each arm of `exec` that no earlier section has. -/

namespace Sys2Proof.Machine

theorem exec_powerOn (s : State) : exec .powerOn s = .next s.powerLost.powerOn := rfl

theorem exec_powerLoss (s : State) : exec .powerLoss s = .next s.powerLost := rfl

theorem exec_resetLineChange (level : Level) (s : State) :
    exec (.resetLineChange level) s =
      .next (s.setResetLine level) := rfl

theorem exec_resetFilterExpiry (s : State) : exec .resetFilterExpiry s = live State.resetFilterExpired s := rfl

theorem exec_shedLineChange (level : Level) (s : State) : exec (.shedLineChange level) s = .next (s.setShedLine level) := rfl

theorem exec_shedFilterExpiry (s : State) : exec .shedFilterExpiry s = live State.shedFilterExpired s := rfl

theorem exec_roundDeliveryChannel (c : Chan) (s : State) :
    exec (.roundDeliveryChannel c) s =
      live (fun s => s.deliverChannel c) s := rfl

theorem exec_roundDeliveryBudget (s : State) : exec .roundDeliveryBudget s = live State.deliverBudget s := rfl

theorem exec_overloadHoldExpiry (s : State) :
    exec .overloadHoldExpiry s =
      live (fun s => if due s.budget.holdTimer s.uptime then s.overloadShed.settle else s) s := rfl

theorem exec_roundDeliveryWatch (s : State) : exec .roundDeliveryWatch s = live State.deliverWatch s := rfl

theorem exec_roundDeliveryMeter (s : State) : exec .roundDeliveryMeter s = live State.deliverMeter s := rfl

theorem exec_senseCurrentChange (c : Chan) (current : Nat) (s : State) :
    exec (.senseCurrentChange c current) s =
      live (fun s => s.afterBoundary.onChan c fun k => { k with comparator := k.comparator.senseCurrent current }) s := rfl

theorem exec_comparatorOperate (c : Chan) (s : State) :
    exec (.comparatorOperate c) s =
      live (fun s => if (s.chan c).comparator.canOperate then s.afterBoundary.onChan c Channel.operate else s) s := rfl

theorem exec_tripEvent (c : Chan) (arming : Nat) (s : State) :
    exec (.tripEvent c arming) s =
      live (fun s => s.takeTrip c arming) s := rfl

theorem exec_startTimerExpiry (c : Chan) (s : State) :
    exec (.startTimerExpiry c) s =
      live (fun s => if (s.chan c).state = .starting ∧ (s.chan c).timer.startDue s.uptime = true then
          (s.startFailed c).settle
        else s) s := rfl

theorem exec_retryWindowExpiry (c : Chan) (s : State) :
    exec (.retryWindowExpiry c) s =
      live (fun s => if (s.chan c).state = .on ∧ (s.chan c).timer.retryWindowDue s.uptime = true then
          s.onChan c fun k => { k with retryCount := 0, timer := .none }
        else s) s := rfl

theorem exec_cycleTimerExpiry (c : Chan) (s : State) :
    exec (.cycleTimerExpiry c) s =
      live (fun s => s.cycleExpired c) s := rfl

theorem exec_cooldownExpiry (c : Chan) (s : State) :
    exec (.cooldownExpiry c) s =
      live (fun s => if (s.chan c).state = .cooldown ∧ (s.chan c).timer.cooldownDue s.uptime = true then
          (s.cooldownEnded c).settle
        else s) s := rfl

theorem exec_queueGrant (c : Chan) (join : Nat) (s : State) :
    exec (.queueGrant c join) s =
      live (fun s => s.takeQueueGrant c join) s := rfl

theorem exec_cycleReturnGrant (c : Chan) (claim : Nat) (s : State) :
    exec (.cycleReturnGrant c claim) s =
      live (fun s => s.takeCycleGrant c claim) s := rfl

theorem exec_replySentCycle (c : Chan) (request : Nat) (s : State) :
    exec (.replySentCycle c request) s =
      live (fun s => s.takeCycleSignal c request .sent) s := rfl

theorem exec_replyDiscardedCycle (c : Chan) (request : Nat) (s : State) :
    exec (.replyDiscardedCycle c request) s =
      live (fun s => s.takeCycleSignal c request .discarded) s := rfl

theorem exec_restartReplySignal (fate : ReplyFate) (request : Nat) (s : State) :
    exec (.restartReplySignal fate request) s =
      live (fun s => s.takeRestartSignal fate request) s := rfl

theorem exec_duePass (s : State) : exec .duePass s = live (fun s => s.duePass.settle) s := rfl

theorem exec_saveWriteEnd (result : WriteEnd) (s : State) :
    exec (.saveWriteEnd result) s =
      live (fun s => if s.profile.saveState = .writing then s.onProfile fun p => p.endWrite result else s) s := rfl

theorem exec_saveVerifyEnd (s : State) : exec .saveVerifyEnd s = live State.verifyEnded s := rfl

theorem exec_receiveCharacterError (s : State) :
    exec .receiveCharacterError s =
      live (fun s => if s.link.takesCharacters then s.afterBoundary.onLink Link.takeError else s) s := rfl

theorem exec_frameAbandonBadLen (len : Byte) (s : State) :
    exec (.frameAbandonBadLen len) s =
      live (fun s => if s.link.takesCharacters && s.link.awaitsLen && (decide (len.toNat < 2) || decide (250 < len.toNat)) then
          s.afterBoundary.onLink Link.abandon
        else s) s := rfl

theorem exec_gapTimerExpiry (s : State) :
    exec .gapTimerExpiry s =
      live (fun s => if due s.link.gapTimer s.uptime && s.link.inFrame then s.onLink Link.abandon else s) s := rfl

theorem exec_frameComplete (last : Byte) (s : State) :
    exec (.frameComplete last) s =
      live (fun s => s.completeFrame last) s := rfl

theorem exec_validFrameSignal (s : State) : exec .validFrameSignal s = live State.takeValidFrame s := rfl

theorem exec_receiveLineChange (level : LineLevel) (s : State) :
    exec (.receiveLineChange level) s =
      .next (s.setReceiveLine level) := rfl

theorem exec_breakTimerExpiry (s : State) :
    exec .breakTimerExpiry s =
      live (fun s => if due s.link.breakTimer s.uptime then s.linkRestart else s) s := rfl

theorem exec_transmitFrameEnd (s : State) :
    exec .transmitFrameEnd s =
      live (fun s => if s.link.tx = .idle then s else s.afterBoundary.frameLeft) s := rfl

theorem exec_noticeSent (nseq : Nat) (s : State) : exec (.noticeSent nseq) s = live (fun s => s.takeNoticeSent nseq) s := rfl

theorem exec_ackTimerExpiry (s : State) :
    exec .ackTimerExpiry s =
      live (fun s => if due s.notices.ackTimer s.uptime then (s.onNotices Notices.ackExpiry).settle else s) s := rfl

theorem exec_keepaliveExpiry (s : State) :
    exec .keepaliveExpiry s =
      live (fun s => if s.notices.sessionOpen && due s.notices.keepaliveTimer s.uptime then
          s.hostLost.settle
        else s) s := rfl

theorem exec_unknownKind (s : State) : exec .unknownKind s = live State.dispatchUnknown s := rfl

theorem exec_identify (s : State) : exec .identify s = live (State.dispatch .identify parseNothing serveIdentify) s := rfl

theorem exec_linkConfig (s : State) :
    exec .linkConfig s =
      live (State.dispatch .linkConfig parseLinkConfig serveLinkConfig) s := rfl

theorem exec_sessionOpen (s : State) :
    exec .sessionOpen s =
      live (State.dispatch .sessionOpen parseSessionOpen serveSessionOpen) s := rfl

theorem exec_sessionClose (s : State) :
    exec .sessionClose s =
      live (State.dispatch .sessionClose parseNothing serveSessionClose) s := rfl

theorem exec_ping (s : State) : exec .ping s = live (State.dispatch .ping parseNothing servePing) s := rfl

theorem exec_noticeAck (s : State) : exec .noticeAck s = live (State.dispatch .noticeAck parseNumber serveNoticeAck) s := rfl

theorem exec_subscribe (s : State) :
    exec .subscribe s =
      live (State.dispatch .subscribe parseSubscribe serveSubscribe) s := rfl

theorem exec_channelConfig (s : State) :
    exec .channelConfig s =
      live (State.dispatch .channelConfig parseChannelConfig serveChannelConfig) s := rfl

theorem exec_channelQuery (s : State) :
    exec .channelQuery s =
      live (State.dispatch .channelQuery parseChannelQuery serveChannelQuery) s := rfl

theorem exec_channelOn (s : State) : exec .channelOn s = live (State.dispatch .channelOn parseChan serveChannelOn) s := rfl

theorem exec_channelOff (s : State) :
    exec .channelOff s =
      live (State.dispatch .channelOff parseChan serveChannelOff) s := rfl

theorem exec_channelCycle (s : State) :
    exec .channelCycle s =
      live (State.dispatch .channelCycle parseChan serveChannelCycle) s := rfl

theorem exec_channelClear (s : State) :
    exec .channelClear s =
      live (State.dispatch .channelClear parseChan serveChannelClear) s := rfl

theorem exec_budgetConfig (s : State) :
    exec .budgetConfig s =
      live (State.dispatch .budgetConfig parseBudgetConfig serveBudgetConfig) s := rfl

theorem exec_budgetQuery (s : State) :
    exec .budgetQuery s =
      live (State.dispatch .budgetQuery parseNothing serveBudgetQuery) s := rfl

theorem exec_measureRead (s : State) :
    exec .measureRead s =
      live (State.dispatch .measureRead parseMask serveMeasureRead) s := rfl

theorem exec_energyRead (s : State) :
    exec .energyRead s =
      live (State.dispatch .energyRead parseEnergyRead serveEnergyRead) s := rfl

theorem exec_peakRead (s : State) : exec .peakRead s = live (State.dispatch .peakRead parsePeakRead servePeakRead) s := rfl

theorem exec_watchSet (s : State) : exec .watchSet s = live (State.dispatch .watchSet parseWatchSet serveWatchSet) s := rfl

theorem exec_watchDelete (s : State) :
    exec .watchDelete s =
      live (State.dispatch .watchDelete parseRecord serveWatchDelete) s := rfl

theorem exec_watchClear (s : State) :
    exec .watchClear s =
      live (State.dispatch .watchClear parseRecord serveWatchClear) s := rfl

theorem exec_watchQuery (s : State) :
    exec .watchQuery s =
      live (State.dispatch .watchQuery parseWatchQuery serveWatchQuery) s := rfl

theorem exec_schedAdd (s : State) : exec .schedAdd s = live (State.dispatch .schedAdd parseSchedAdd serveSchedAdd) s := rfl

theorem exec_schedList (s : State) :
    exec .schedList s =
      live (State.dispatch .schedList parseSchedList serveSchedList) s := rfl

theorem exec_profileSave (s : State) :
    exec .profileSave s =
      live (State.dispatch .profileSave parseNothing serveProfileSave) s := rfl

theorem exec_profileQuery (s : State) :
    exec .profileQuery s =
      live (State.dispatch .profileQuery parseNothing serveProfileQuery) s := rfl

theorem exec_restart (s : State) : exec .restart s = live (State.dispatch .restart parseNothing serveRestart) s := rfl

theorem exec_characterReceived (char : Byte) (s : State) :
    exec (.characterReceived char) s =
      live (fun s => s.takeCharacter char) s := rfl

end Sys2Proof.Machine
end

section
/-! Proofs: the Notice Unit. What every operation of chapter 10 keeps: the size of the queue, ATTN, and the delivery window. -/

namespace Sys2Proof.Machine

/-! The delivery window (R166). -/

/-- A notice that has just been offered (R166). -/
def Notice.offer (n : Notice) : Notice := { n with delivery := .offered, frameWaiting := true }

/-- A queue is a window of at most four OFFERED or IN_FLIGHT notices before notices that are UNSENT with no frame waiting. -/
structure Splits (q window rest : List Notice) : Prop where
  eq : q = window ++ rest
  le : window.length ≤ 4
  window : ∀ n ∈ window, n.delivery ≠ .unsent
  rest : ∀ n ∈ rest, n.delivery = .unsent ∧ n.frameWaiting = false

/-- `DeliverySound` with the window and what stands behind it named. -/
structure Notices.Delivers (u : Notices) : Prop where
  splits : ∃ w r, Splits u.queue w r
    ∧ (u.sessionOpen = true → u.stalled = false → w.length = 4 ∨ r = []) ∧ (u.sessionOpen = false → w = [])
  resend : u.resend ≤ 3
  stalled : u.stalled = true → u.ackTimer = none
  closed : u.sessionOpen = false →
    u.keepaliveTimer = none ∧ u.ackTimer = none ∧ u.resend = 0 ∧ u.stalled = false

theorem Splits.takeWhile {q w r : List Notice} (h : Splits q w r) :
    q.takeWhile (fun n => n.delivery != Delivery.unsent) = w := by
  rw [h.eq, List.takeWhile_append_of_pos fun n hn => by simpa using h.window n hn]
  cases r with
  | nil => simp
  | cons n r => simp [(h.rest n (by simp)).1]

theorem deliverySound_iff (s : State) : DeliverySound s ↔ s.notices.Delivers := by
  constructor
  · rintro ⟨hle, hrest, hresend, hfull, hstall, hclosed⟩
    have hq := List.takeWhile_append_dropWhile (p := fun n : Notice => n.delivery != Delivery.unsent) (l := s.notices.queue)
    have hdrop : s.notices.queue.drop s.notices.window.length
        = s.notices.queue.dropWhile fun n => n.delivery != Delivery.unsent :=
      List.append_cancel_left ((List.prefix_iff_eq_append.1 (List.takeWhile_prefix _)).trans hq.symm)
    refine ⟨⟨s.notices.window, _, ⟨hq.symm, hle, ?_, fun n hn => hrest n (hdrop ▸ hn)⟩, ?_, fun h => (hclosed h).1⟩, hresend, hstall,
      fun h => (hclosed h).2⟩
    · intro n hn
      simpa using List.mem_takeWhile_imp hn
    · refine fun ho hs => (hfull ho hs).imp_right fun hw => ?_
      exact List.append_right_eq_self.1 (hq.trans hw.symm)
  · rintro ⟨⟨w, r, hs, hfull, hw⟩, hresend, hstall, hclosed⟩
    have hwin : s.notices.window = w := hs.takeWhile
    refine ⟨hwin ▸ hs.le, ?_, hresend, fun ho hns => (hfull ho hns).imp (by rw [hwin]; exact id) fun hr => ?_, hstall,
      fun h => ⟨hwin.trans (hw h), hclosed h⟩⟩
    · rw [hwin, hs.eq, List.drop_left]
      exact hs.rest
    · rw [hwin, hs.eq, hr, List.append_nil]

theorem Splits.map {q w r : List Notice} (h : Splits q w r) (f : Notice → Notice)
    (hf : ∀ n, (f n).delivery = .unsent ↔ n.delivery = .unsent)
    (hw : ∀ n, n.delivery = .unsent → n.frameWaiting = false → (f n).frameWaiting = false) :
    Splits (q.map f) (w.map f) (r.map f) := by
  refine ⟨by rw [h.eq, List.map_append], by simpa using h.le, fun n hn => ?_, fun n hn => ?_⟩
  · obtain ⟨m, hm, rfl⟩ := List.mem_map.1 hn
    exact mt (hf m).1 (h.window m hm)
  · obtain ⟨m, hm, rfl⟩ := List.mem_map.1 hn
    obtain ⟨h1, h2⟩ := h.rest m hm
    exact ⟨(hf m).2 h1, hw m h1 h2⟩

theorem Splits.windowCount {q w r : List Notice} (h : Splits q w r) : windowCount q = w.length := by
  rw [Machine.windowCount, h.eq, List.filter_append, List.filter_eq_self.2 fun n hn => by simpa using h.window n hn,
    List.filter_eq_nil_iff.2 fun n hn => by simpa using (h.rest n hn).1, List.append_nil]

/-- Offering takes the oldest notices behind the window. -/
theorem offerUnsent_append {w r : List Notice} (hw : ∀ n ∈ w, n.delivery ≠ .unsent) (hr : ∀ n ∈ r, n.delivery = .unsent)
    (k : Nat) : offerUnsent k (w ++ r) = w ++ ((r.take k).map Notice.offer ++ r.drop k) := by
  induction w with
  | cons n w ih =>
    have hn : n.delivery ≠ .unsent := hw n (by simp)
    simp only [List.cons_append, offerUnsent, hn, if_false, ih fun m hm => hw m (List.mem_cons_of_mem _ hm)]
  | nil =>
    induction r generalizing k with
    | nil => cases k <;> rfl
    | cons n r ih =>
      have hn : n.delivery = .unsent := hr n (by simp)
      cases k with
      | zero => simp
      | succ k =>
        have hrest := ih (fun m hm => hr m (List.mem_cons_of_mem _ hm)) k
        simp only [List.nil_append] at hrest ⊢
        simp only [offerUnsent, hn, if_true, hrest, List.take_succ_cons, List.drop_succ_cons, List.map_cons, List.cons_append,
          Notice.offer]

/-- After an offer of what the window lacks it is full, or holds the whole queue. -/
theorem Splits.offer {q w r : List Notice} (h : Splits q w r) :
    ∃ w' r', Splits (offerUnsent (4 - Machine.windowCount q) q) w' r' ∧ (w'.length = 4 ∨ r' = []) := by
  rw [h.windowCount, h.eq, offerUnsent_append h.window fun n hn => (h.rest n hn).1]
  have hle := h.le
  refine ⟨w ++ (r.take (4 - w.length)).map Notice.offer, r.drop (4 - w.length),
    ⟨(List.append_assoc ..).symm, ?_, fun n hn => ?_, fun n hn => h.rest n (List.mem_of_mem_drop hn)⟩, ?_⟩
  · simp only [List.length_append, List.length_map, List.length_take]
    omega
  · rcases List.mem_append.1 hn with hn | hn
    · exact h.window n hn
    · obtain ⟨m, -, rfl⟩ := List.mem_map.1 hn
      simp [Notice.offer]
  · simp only [List.length_append, List.length_map, List.length_take, List.drop_eq_nil_iff]
    omega

/-! What an operation keeps. -/

/-- The size of the queue and the pending lost count (R165). -/
def Notices.Bounded (u : Notices) : Prop := u.queue.length ≤ 24 ∧ u.lost ≤ 255

/-- ATTN says whether an urgent notice waits (R170). -/
def Notices.AttnSet (u : Notices) : Prop := u.attn = attnLevel u.queue

theorem attnAgrees_iff (s : State) : AttnAgrees s ↔ s.notices.AttnSet := by
  rw [AttnAgrees, ← attnLevel_asserted, Notices.AttnSet]
  cases s.notices.attn <;> cases attnLevel s.notices.queue <;> simp

/-- What every operation of the Notice Unit keeps of the Notice Unit's state. -/
structure Notices.Keeps (u v : Notices) : Prop where
  bounded : u.Bounded → v.Bounded
  attn : u.AttnSet → v.AttnSet
  delivers : u.Delivers → v.Delivers

theorem Notices.Keeps.trans {u v w : Notices} (h : u.Keeps v) (k : v.Keeps w) : u.Keeps w :=
  ⟨k.bounded ∘ h.bounded, k.attn ∘ h.attn, k.delivers ∘ h.delivers⟩

/-- Nothing that the properties speak of has changed. -/
theorem Notices.Keeps.of_eq {u v : Notices} (hq : v.queue = u.queue) (hl : v.lost = u.lost) (ha : v.attn = u.attn)
    (ho : v.sessionOpen = u.sessionOpen) (hs : v.stalled = u.stalled) (hr : v.resend = u.resend)
    (ht : v.ackTimer = u.ackTimer) (hk : v.sessionOpen = false → v.keepaliveTimer = u.keepaliveTimer) : u.Keeps v := by
  refine ⟨by rw [Bounded, Bounded, hq, hl]; exact id, by rw [AttnSet, AttnSet, hq, ha]; exact id, fun h => ?_⟩
  obtain ⟨h1, h2, h3, h4⟩ := h
  refine ⟨by rwa [hq, ho, hs], by rwa [hr], by rwa [hs, ht], fun hc => ?_⟩
  rw [ho] at hc hk
  rw [hk hc, ht, hr, hs]
  exact h4 hc

theorem attnLevel_map (q : List Notice) (f : Notice → Notice) (hf : ∀ n, (f n).cls = n.cls) :
    attnLevel (q.map f) = attnLevel q := by
  simp only [attnLevel, List.any_map, Function.comp_def, hf]

/-- Only the frames that wait and OFFERED against IN_FLIGHT have changed in the queue. -/
theorem Notices.Keeps.map (u : Notices) (f : Notice → Notice) (hc : ∀ n, (f n).cls = n.cls)
    (hf : ∀ n, (f n).delivery = .unsent ↔ n.delivery = .unsent)
    (hw : ∀ n, n.delivery = .unsent → n.frameWaiting = false → (f n).frameWaiting = false) :
    u.Keeps { u with queue := u.queue.map f } := by
  refine ⟨by simp [Bounded], by simp [AttnSet, attnLevel_map _ f hc], fun ⟨⟨w, r, hs, h1, h2⟩, h3, h4, h5⟩ => ?_⟩
  refine ⟨⟨w.map f, r.map f, hs.map f hf hw, fun ho hns => ?_, fun hcl => by simp [h2 hcl]⟩, h3, h4, h5⟩
  simpa using h1 ho hns

theorem Notices.fillWindow_lost (u : Notices) : u.fillWindow.lost = u.lost := by rw [u.fillWindow_eq]
theorem Notices.fillWindow_attn (u : Notices) : u.fillWindow.attn = u.attn := by rw [u.fillWindow_eq]

theorem Notices.fillWindow_bounded {u : Notices} (h : u.Bounded) : u.fillWindow.Bounded := by
  rwa [Bounded, u.fillWindow_length, u.fillWindow_lost]

/-- Filling makes the window full in OPEN while not stalled, whatever it held (R166). -/
theorem Notices.fillWindow_delivers {u : Notices} (hs : ∃ w r, Splits u.queue w r ∧ (u.sessionOpen = false → w = []))
    (hr : u.resend ≤ 3) (ht : u.stalled = true → u.ackTimer = none)
    (hc : u.sessionOpen = false → u.keepaliveTimer = none ∧ u.ackTimer = none ∧ u.resend = 0 ∧ u.stalled = false) :
    u.fillWindow.Delivers := by
  obtain ⟨w, r, hs, hw⟩ := hs
  unfold fillWindow
  by_cases h : (u.sessionOpen && !u.stalled) = true
  · obtain ⟨w', r', hs', hfull⟩ := hs.offer
    have ho : u.sessionOpen = true := by simp only [Bool.and_eq_true] at h; exact h.1
    rw [if_pos h]
    exact ⟨⟨w', r', hs', fun _ _ => hfull, fun hcl => absurd (ho.symm.trans hcl) (by simp)⟩, hr, ht, hc⟩
  · rw [if_neg h]
    refine ⟨⟨w, r, hs, fun ho hns => absurd ?_ h, hw⟩, hr, ht, hc⟩
    simp [ho, hns]

theorem Notices.setAttn_set (u : Notices) : u.setAttn.AttnSet := rfl

theorem Notices.Delivers.setAttn {u : Notices} (h : u.Delivers) : u.setAttn.Delivers := ⟨h.splits, h.resend, h.stalled, h.closed⟩

/-- A notice leaves the rest of the queue and joins at the tail. -/
theorem Splits.snoc {q w r : List Notice} (h : Splits q w r) {n : Notice} (hd : n.delivery = .unsent)
    (hf : n.frameWaiting = false) : Splits (q ++ [n]) w (r ++ [n]) := by
  refine ⟨by rw [h.eq, List.append_assoc], h.le, h.window, fun m hm => ?_⟩
  rcases List.mem_append.1 hm with hm | hm
  · exact h.rest m hm
  · obtain rfl := List.mem_singleton.1 hm
    exact ⟨hd, hf⟩

theorem Splits.eraseP {q w r : List Notice} (h : Splits q w r) :
    Splits (q.eraseP Notice.evictable) w (r.eraseP Notice.evictable) := by
  have hw : ∀ n ∈ w, ¬ Notice.evictable n = true := fun n hn he => h.window n hn (by simp [Notice.evictable] at he; exact he.2)
  exact ⟨by rw [h.eq, List.eraseP_append_right _ hw], h.le, h.window, fun n hn => h.rest n (List.mem_of_mem_eraseP hn)⟩

theorem Notices.join_bounded {u : Notices} (h : u.queue.length < 24) (now : Nat) (chan : Option Chan) (body : NoticeBody) :
    (u.join now chan body).Bounded := by
  simp only [Bounded, join, List.length_append, List.length_singleton]
  omega

theorem Notices.meetQueue_bounded {u : Notices} (h : u.Bounded) (now : Nat) (chan : Option Chan) (body : NoticeBody) :
    (u.meetQueue now chan body).Bounded := by
  unfold meetQueue
  split
  · next hlt => exact join_bounded hlt now chan body
  · split
    · next hev =>
      obtain ⟨n, hn, he⟩ := List.any_eq_true.1 hev.2
      refine join_bounded ?_ now chan body
      have := List.length_eraseP_of_mem hn he
      have := List.length_pos_of_mem hn
      have := h.1
      simp only
      omega
    · exact ⟨h.1, by simp [satAdd]⟩

theorem Notices.meetQueue_frame (u : Notices) (now : Nat) (chan : Option Chan) (body : NoticeBody) :
    u.meetQueue now chan body = { u with
      queue := (u.meetQueue now chan body).queue, nextNseq := (u.meetQueue now chan body).nextNseq
      lost := (u.meetQueue now chan body).lost } := by
  unfold meetQueue
  repeat' split
  all_goals rfl

/-- A notice that meets the queue leaves the window as it is (R165). -/
theorem Notices.meetQueue_splits {u : Notices} {w r : List Notice} (h : Splits u.queue w r) (now : Nat) (chan : Option Chan)
    (body : NoticeBody) : ∃ r', Splits (u.meetQueue now chan body).queue w r' := by
  unfold meetQueue
  split
  · exact ⟨_, h.snoc rfl rfl⟩
  · split
    · exact ⟨_, h.eraseP.snoc rfl rfl⟩
    · exact ⟨r, h⟩

theorem Notices.post_keeps (u : Notices) (now : Nat) (chan : Option Chan) (body : NoticeBody) :
    u.Keeps (u.post now chan body) := by
  unfold post
  split
  · refine ⟨fun h => fillWindow_bounded (meetQueue_bounded h now chan body), fun _ => setAttn_set _, fun h => ?_⟩
    obtain ⟨⟨w, r, hs, -, hw⟩, hr, ht, hc⟩ := h
    obtain ⟨r', hs'⟩ := meetQueue_splits hs now chan body
    refine Delivers.setAttn (fillWindow_delivers ⟨w, r', hs', ?_⟩ ?_ ?_ ?_) <;> rw [u.meetQueue_frame now chan body]
    exacts [hw, hr, ht, hc]
  · exact ⟨id, id, id⟩

theorem Notices.endSession_keeps (u : Notices) : u.Keeps u.endSession := by
  refine ⟨fun h => ?_, fun h => ?_, fun _ => ?_⟩
  · simpa [Bounded, endSession] using h
  · rw [AttnSet] at h ⊢
    rw [endSession, attnLevel_map]
    exacts [h, fun _ => rfl]
  · refine ⟨⟨[], u.queue.map Notice.unsend, ⟨rfl, by simp, by simp, fun n hn => ?_⟩, fun h => ?_, fun _ => rfl⟩, Nat.zero_le _,
      fun _ => rfl, fun _ => ⟨rfl, rfl, rfl, rfl⟩⟩
    · obtain ⟨m, -, rfl⟩ := List.mem_map.1 hn
      exact ⟨rfl, rfl⟩
    · simp [endSession] at h

theorem Notices.frameStarted_keeps (u : Notices) (nseq : Nat) : u.Keeps (u.frameStarted nseq) := by
  refine Keeps.map u _ (fun n => ?_) (fun n => ?_) (fun n _ hw => ?_) <;> split <;> simp_all

/-- Offering again acts on IN_FLIGHT notices only (R168). -/
theorem Notices.reoffer_keeps (u : Notices) : u.Keeps { u with queue := u.queue.map Notice.reoffer } := by
  refine Keeps.map u _ (fun n => ?_) (fun n => ?_) (fun n hd hw => ?_) <;> unfold Notice.reoffer <;> split <;> simp_all

theorem Notices.markSent_keeps (u : Notices) (nseq : Nat) : u.Keeps { u with queue := markSent nseq u.queue } := by
  refine Keeps.map u _ (fun n => ?_) (fun n => ?_) (fun n hd hw => ?_) <;> split <;> simp_all

/-- With no session open no notice is in the window. -/
theorem Notices.Delivers.inWindow_closed {u : Notices} (h : u.Delivers) (hc : u.sessionOpen = false) (nseq : Nat) :
    inWindow nseq u.queue = false := by
  obtain ⟨⟨w, r, hs, -, hw⟩, -⟩ := h
  rw [inWindow, List.any_eq_false]
  intro n hn
  rw [hs.eq, hw hc] at hn
  simp [(hs.rest n hn).1]

theorem Notices.takeSent_keeps (u : Notices) (nseq ackExpiry : Nat) : u.Keeps (u.takeSent nseq ackExpiry) := by
  unfold takeSent
  split
  · next hin =>
    refine (u.markSent_keeps nseq).trans ⟨id, id, fun h => ⟨h.splits, h.resend, fun hs => ?_, fun hc => ?_⟩⟩
    · have ht := h.stalled hs
      simp_all
    · have := h.inWindow_closed hc nseq
      have hin' : inWindow nseq (markSent nseq u.queue) = true := by
        obtain ⟨n, hn, hp⟩ := List.any_eq_true.1 hin
        refine List.any_eq_true.2 ⟨_, List.mem_map_of_mem hn, ?_⟩
        simp only [Bool.and_eq_true, beq_iff_eq, bne_iff_ne] at hp ⊢
        split <;> simp_all
      exact absurd (hin'.symm.trans this) (by simp)
  · exact ⟨id, id, id⟩

theorem Notices.ackExpiry_keeps {u : Notices} {now : Nat} (hdue : due u.ackTimer now = true) : u.Keeps u.ackExpiry := by
  have hopen (h : u.Delivers) : u.sessionOpen = true := by
    by_contra hc
    rw [(h.closed (by simpa using hc)).2.1] at hdue
    simp [due] at hdue
  unfold ackExpiry
  split
  · exact ⟨id, id, fun h => ⟨h.splits, h.resend, fun _ => rfl, fun hc => absurd ((hopen h).symm.trans hc) (by simp)⟩⟩
  · split
    · next hns hlt =>
      have hk := u.reoffer_keeps
      refine ⟨hk.bounded, hk.attn, fun h => ?_⟩
      have hd := hk.delivers h
      exact ⟨hd.splits, hlt, fun _ => rfl, fun hc => absurd ((hopen h).symm.trans hc) (by simp)⟩
    · refine ⟨id, id, fun h => ?_⟩
      obtain ⟨w, r, hs, -, hw⟩ := h.splits
      exact ⟨⟨w, r, hs, fun _ hns => absurd hns (by simp), hw⟩, h.resend, fun _ => rfl,
        fun hc => absurd ((hopen h).symm.trans hc) (by simp)⟩

theorem Notices.liftStall_keeps (u : Notices) : u.Keeps u.liftStall := by
  unfold liftStall
  split
  · next hos =>
    rw [Bool.and_eq_true] at hos
    have hk := u.reoffer_keeps
    refine ⟨fun h => fillWindow_bounded (hk.bounded h), fun h => ?_, fun h => ?_⟩
    · have := hk.attn h
      rw [AttnSet, fillWindow_attnLevel, fillWindow_attn]
      exact this
    · obtain ⟨⟨w, r, hs, -, hw⟩, -, ht, -⟩ := hk.delivers h
      exact fillWindow_delivers ⟨w, r, hs, hw⟩ (Nat.zero_le _) (fun hs => absurd hs (by simp))
        fun hc => absurd (hos.1.symm.trans hc) (by simp)
  · exact ⟨id, id, id⟩

theorem Notices.takeValidFrame_keeps (u : Notices) (now keepaliveExpiry : Nat) :
    u.Keeps (u.takeValidFrame now keepaliveExpiry) := by
  refine .trans (.of_eq (v := { u with latestFrame := now, keepaliveTimer := _ }) rfl rfl rfl rfl rfl rfl rfl fun hc => ?_)
    (liftStall_keeps _)
  have hc : u.sessionOpen = false := hc
  simp [hc]

/-- What an acknowledged notice leaves: the queue behind an IN_FLIGHT notice of its NSEQ. -/
theorem acknowledged_some {nseq removed : Nat} {q rest : List Notice} (h : acknowledged nseq q = some (removed, rest)) :
    ∃ older n, q = older ++ n :: rest ∧ n.delivery = .inFlight ∧ removed = older.length + 1 := by
  induction q generalizing removed with
  | nil => simp [acknowledged] at h
  | cons n q ih =>
    unfold acknowledged at h
    split at h
    · split at h
      · next hd =>
        obtain ⟨⟨⟩⟩ := h
        exact ⟨[], n, rfl, hd, rfl⟩
      · cases h
    · obtain ⟨⟨k, r⟩, hk, ⟨⟩⟩ := Option.map_eq_some_iff.1 h
      obtain ⟨older, m, rfl, hd, rfl⟩ := ih hk
      exact ⟨n :: older, m, rfl, hd, rfl⟩

/-- The queue behind a notice of the window splits where the queue does. -/
theorem Splits.behind {older rest w r : List Notice} {n : Notice} (h : Splits (older ++ n :: rest) w r)
    (hn : n.delivery ≠ .unsent) : ∃ w', Splits rest w' r ∧ w ≠ [] := by
  have hlen : older.length < w.length := by
    by_contra hle
    have hget : (older ++ n :: rest)[older.length]? = some n := by simp
    rw [h.eq, List.getElem?_append_right (by omega)] at hget
    exact hn (h.rest n (List.mem_of_getElem? hget)).1
  have hrest : rest = w.drop (older.length + 1) ++ r := by
    have := congrArg (List.drop (older.length + 1)) h.eq
    rwa [List.drop_append_of_le_length (l₁ := w) (by omega), List.drop_append, List.drop_eq_nil_of_le (by omega),
      Nat.add_sub_cancel_left, List.drop_succ_cons, List.drop_zero, List.nil_append] at this
  refine ⟨w.drop (older.length + 1), ⟨hrest, ?_, fun m hm => h.window m (List.mem_of_mem_drop hm), h.rest⟩, ?_⟩
  · have := h.le
    simp only [List.length_drop]
    omega
  · rintro rfl
    simp at hlen

theorem Notices.acknowledge_keeps {u : Notices} {nseq removed : Nat} {rest : List Notice}
    (h : acknowledged nseq u.queue = some (removed, rest)) (ackExpiry : Nat) : u.Keeps (u.acknowledge rest ackExpiry) := by
  obtain ⟨older, n, hq, hd, -⟩ := acknowledged_some h
  have hn : n.delivery ≠ .unsent := by simp [hd]
  refine ⟨fun hb => fillWindow_bounded ⟨?_, hb.2⟩, fun _ => setAttn_set _, fun hdel => ?_⟩
  · have := hb.1
    rw [hq] at this
    simp only [List.length_append, List.length_cons] at this ⊢
    omega
  · obtain ⟨⟨w, r, hs, -, hw⟩, -, ht, -⟩ := hdel
    rw [hq] at hs
    obtain ⟨w', hs', hne⟩ := hs.behind hn
    have hopen : u.sessionOpen ≠ false := fun hc => hne (hw hc)
    exact Delivers.setAttn (fillWindow_delivers ⟨w', r, hs', fun hc => absurd hc hopen⟩ (Nat.zero_le _)
      (fun hst => by simp_all) fun hc => absurd hc hopen)

theorem Notices.openSession_keeps (u : Notices) (keepalive now keepaliveExpiry : Nat) :
    u.Keeps (u.openSession keepalive now keepaliveExpiry) := by
  refine ⟨fun h => fillWindow_bounded h, fun h => ?_, fun h => ?_⟩
  · rw [AttnSet] at h ⊢
    rw [openSession, fillWindow_attnLevel, fillWindow_attn]
    exact h
  · obtain ⟨⟨w, r, hs, -, hw⟩, -, -, -⟩ := h
    exact fillWindow_delivers ⟨w, r, hs, fun hc => absurd hc (by simp)⟩ (Nat.zero_le _) (fun h => absurd h (by simp))
      fun hc => absurd hc (by simp)

/-- The Notice Unit at a start has all of the properties. -/
theorem Notices.atStart_keeps (u v : Notices) (subscriptions : BitVec 13) : u.Keeps (v.atStart subscriptions) :=
  ⟨fun _ => ⟨Nat.zero_le _, Nat.zero_le _⟩, fun _ => rfl, fun _ =>
    ⟨⟨[], [], ⟨rfl, by simp, by simp, by simp⟩, fun _ _ => .inr rfl, fun _ => rfl⟩, Nat.zero_le _, fun _ => rfl,
      fun _ => ⟨rfl, rfl, rfl, rfl⟩⟩⟩

end Sys2Proof.Machine
end

section
/-! Proofs: the schedule list and the queues of the link. What placing, firing and cancelling keep of the list (R110, R111, R116), and
what every operation of the Link Interface keeps of the sizes of the request queue and the reply list (R144, R146). -/

namespace Sys2Proof.Machine

/-! The schedule list. -/

/-- `ScheduleSound` of a list. -/
def SchedSound (l : List SchedEntry) : Prop :=
  l.length ≤ 32 ∧ l.Pairwise (fun x y => x.due ≤ y.due) ∧ (l.map (·.tag)).Nodup

theorem scheduleSound_iff (s : State) : ScheduleSound s ↔ SchedSound s.schedule := .rfl

/-- An entry stands between the entries of at most its due and the others (R111). -/
theorem placeEntry_eq_append (e : SchedEntry) (l : List SchedEntry) :
    ∃ before behind, l = before ++ behind ∧ placeEntry e l = before ++ e :: behind ∧ (∀ x ∈ before, x.due ≤ e.due)
      ∧ ∀ x rest, behind = x :: rest → e.due < x.due := by
  refine ⟨_, _, (List.takeWhile_append_dropWhile (p := fun x : SchedEntry => decide (x.due ≤ e.due))).symm, rfl,
    fun x hx => by simpa using List.mem_takeWhile_imp hx, fun x rest hx => ?_⟩
  have := List.head?_dropWhile_not (fun x : SchedEntry => decide (x.due ≤ e.due)) l
  rw [hx] at this
  simpa using this

theorem placeEntry_sorted {e : SchedEntry} {l : List SchedEntry} (h : l.Pairwise fun x y => x.due ≤ y.due) :
    (placeEntry e l).Pairwise fun x y => x.due ≤ y.due := by
  obtain ⟨before, behind, hl, hp, hb, ha⟩ := placeEntry_eq_append e l
  rw [hl, List.pairwise_append] at h
  obtain ⟨h1, h2, h3⟩ := h
  have hbehind : ∀ y ∈ behind, e.due ≤ y.due := by
    intro y hy
    cases behind with
    | nil => cases hy
    | cons z rest =>
      have hz := ha z rest rfl
      rcases List.mem_cons.1 hy with rfl | hy
      · omega
      · have := (List.pairwise_cons.1 h2).1 y hy
        omega
  rw [hp, List.pairwise_append, List.pairwise_cons]
  refine ⟨h1, ⟨hbehind, h2⟩, fun x hx y hy => ?_⟩
  rcases List.mem_cons.1 hy with rfl | hy
  · exact hb x hx
  · exact h3 x hx y hy

theorem placeEntry_perm (e : SchedEntry) (l : List SchedEntry) : (placeEntry e l).Perm (e :: l) := by
  obtain ⟨before, behind, hl, hp, -, -⟩ := placeEntry_eq_append e l
  rw [hp, hl]
  exact List.perm_middle

/-- A new entry of a new tag, placed in a list with room. -/
theorem SchedSound.place {e : SchedEntry} {l : List SchedEntry} (h : SchedSound l) (hlen : l.length < 32)
    (htag : ∀ x ∈ l, x.tag ≠ e.tag) : SchedSound (placeEntry e l) := by
  refine ⟨by rw [placeEntry_length]; omega, placeEntry_sorted h.2.1, ?_⟩
  rw [((placeEntry_perm e l).map _).nodup_iff, List.map_cons, List.nodup_cons]
  exact ⟨fun hm => by obtain ⟨x, hx, hxt⟩ := List.mem_map.1 hm; exact htag x hx hxt, h.2.2⟩

theorem SchedSound.sublist {k l : List SchedEntry} (h : SchedSound l) (hs : k.Sublist l) : SchedSound k :=
  ⟨hs.length_le.trans h.1, h.2.1.sublist hs, h.2.2.sublist (hs.map _)⟩

/-- The list after its head has fired (R114). -/
theorem SchedSound.afterFiring {e : SchedEntry} {rest : List SchedEntry} (h : SchedSound (e :: rest)) (t : Nat) :
    SchedSound (afterFiring e rest t) := by
  have hrest : SchedSound rest := h.sublist (List.sublist_cons_self e rest)
  unfold Machine.afterFiring
  split
  · exact hrest
  · have htags := (List.nodup_cons.1 h.2.2).1
    refine hrest.place (by have := h.1; simp only [List.length_cons] at this; omega) fun x hx hxt => htags ?_
    exact List.mem_map.2 ⟨x, hx, hxt⟩

/-- What may become of the schedule list in one event: its head fires, an accepted entry is placed, entries leave, or it is emptied. -/
inductive SchedMove : List SchedEntry → List SchedEntry → Prop
  | fire (e : SchedEntry) (rest : List SchedEntry) (t : Nat) : SchedMove (e :: rest) (afterFiring e rest t)
  | add (l : List SchedEntry) (f : SchedAddFields) (u : Nat) (h : addRefusal l f.tag = none) :
      SchedMove l (placeEntry (newEntry f u) l)
  | leave (l k : List SchedEntry) (h : k.Sublist l) : SchedMove l k

theorem addRefusal_none_iff (l : List SchedEntry) (tag : Nat) :
    addRefusal l tag = none ↔ (∀ x ∈ l, x.tag ≠ tag) ∧ l.length < 32 := by
  unfold addRefusal
  split
  · next h => simpa using fun h' => absurd h (by simpa using h')
  · split
    · next h => simpa using fun _ => h
    · next h1 h2 => simpa using ⟨by simpa using h1, by omega⟩

theorem SchedMove.sound {k l : List SchedEntry} (m : SchedMove k l) (h : SchedSound k) : SchedSound l := by
  cases m with
  | fire e rest t => exact h.afterFiring t
  | add l f u hadd =>
    obtain ⟨htag, hlen⟩ := (addRefusal_none_iff _ _).1 hadd
    exact h.place hlen htag
  | leave l k hs => exact h.sublist hs

/-! The queues of the link. -/

/-- The sizes of the request queue and the reply list (R144, R146). -/
def Link.Bounded (l : Link) : Prop := l.queue.length ≤ 4 ∧ l.replyList.length ≤ 4

/-- What every operation of the Link Interface keeps. -/
def Link.Keeps (l m : Link) : Prop := l.Bounded → m.Bounded

theorem queuesBounded_iff (s : State) : QueuesBounded s ↔ s.link.Bounded ∧ s.notices.Bounded := by
  simp only [QueuesBounded, Link.Bounded, Notices.Bounded, and_assoc]

theorem Link.Keeps.of_eq {l m : Link} (hq : m.queue = l.queue) (hr : m.replyList = l.replyList) : l.Keeps m := by
  rw [Keeps, Bounded, Bounded, hq, hr]
  exact id

/-- The entries have changed, but not their number. -/
theorem Link.Keeps.map {l m : Link} (f : ReqEntry → ReqEntry) (hq : m.queue = l.queue.map f)
    (hr : m.replyList = l.replyList) : l.Keeps m := by
  rw [Keeps, Bounded, Bounded, hq, hr, List.length_map]
  exact id

theorem Link.Keeps.trans {l m n : Link} (h : l.Keeps m) (k : m.Keeps n) : l.Keeps n := k ∘ h

theorem Link.enqueue_keeps (l : Link) (kind seq : Byte) (payload : List Byte) (crc : BitVec 16) (wait : Nat) :
    l.Keeps (l.enqueue kind seq payload crc wait) := by
  unfold enqueue
  dsimp only
  split
  · exact .of_eq rfl rfl
  · split
    · exact .of_eq rfl rfl
    · next hlen =>
      split <;> exact fun h => ⟨by simp only [List.length_append, List.length_singleton]; omega, h.2⟩

theorem Link.frameDone_keeps (l : Link) (len : Byte) (body : List Byte) (hi lo : Byte) : l.Keeps (l.frameDone len body hi lo) := by
  have hunt : l.Keeps l.toHunt := .of_eq rfl rfl
  unfold frameDone
  dsimp only
  split
  · split
    · unfold acceptFrame
      split
      · exact hunt.trans (.trans (m := { l.toHunt with validSignals := l.toHunt.validSignals + 1 }) (.of_eq rfl rfl)
          (enqueue_keeps _ _ _ _ _ _))
      · exact hunt.trans (enqueue_keeps _ _ _ _ _ _)
    · exact hunt
  · exact .of_eq rfl rfl

theorem Link.takeCharacter_keeps (l : Link) (char : Byte) (gapExpiry : Nat) : l.Keeps (l.takeCharacter char gapExpiry) := by
  unfold takeCharacter
  split
  case h_5 => exact frameDone_keeps _ _ _ _ _
  all_goals try split
  all_goals exact .of_eq rfl rfl

theorem Link.takeError_keeps (l : Link) : l.Keeps l.takeError := by
  unfold takeError
  split <;> exact .of_eq rfl rfl

theorem Link.startReply_keeps (l : Link) : l.Keeps l.startReply := by
  unfold startReply
  split
  · exact id
  · next e rest h => exact fun hb => ⟨by simpa [h] using hb.1, hb.2⟩

/-- The reply list holds the newest four (R146). -/
theorem placeReply_length (form : ReqForm) (k : KeptReply) (l : List KeptReply) : (placeReply form k l).length ≤ 4 := by
  unfold placeReply
  simp only [List.length_drop, List.length_append, List.length_singleton]
  omega

theorem Link.replyLeft_keeps (l : Link) : l.Keeps l.replyLeft := by
  unfold replyLeft
  split
  · exact .of_eq rfl rfl
  · next e rest h =>
    refine fun hb => ⟨?_, placeReply_length _ _ _⟩
    have := hb.1
    simp only [h, List.length_cons] at this ⊢
    omega

theorem Link.restart_keeps (l : Link) : l.Keeps l.restart :=
  fun h => ⟨(List.length_filter_le _ _).trans h.1, Nat.zero_le _⟩

theorem Link.atStart_keeps (l m : Link) (rate : LinkRate) (stats : LinkStats) : l.Keeps (m.atStart rate stats) :=
  fun _ => ⟨Nat.zero_le _, Nat.zero_le _⟩

end Sys2Proof.Machine
end

section
/-! Proofs: what an event is made of. Every command is a chain of moves, each a shared operation of the model with the condition under
which the model makes it (`exec_moves`). A property that every move keeps is then kept by every command. -/

namespace Sys2Proof.Machine

/-! The moves. -/

/-- A channel's course is the same: only its comparator's record, its latest arrival, its trip events and its last off reason may have
changed, and the comparator is not newly armed. -/
def Channel.SameCourse (k m : Channel) : Prop :=
  m = { k with comparator := m.comparator, latest := m.latest, trips := m.trips, lastOff := m.lastOff }
  ∧ (m.comparator.armed = true → k.comparator.armed = true)
  ∧ ((k.comparator.filterRunning = true → k.comparator.armed = true) →
      m.comparator.filterRunning = true → m.comparator.armed = true)

/-- The Budget Manager holds the same under the same settings: of its queue only the bypass counts may have changed. -/
def Budget.SameHoldings (b d : Budget) : Prop :=
  d.records = b.records ∧ d.settings = b.settings ∧ d.claims = b.claims
  ∧ ∃ g : Waiting → Nat, d.queue = b.queue.map fun e => { e with bypass := g e }

/-- A channel that may be made to leave: it is not LATCHED, or the Budget Manager holds something for it. -/
def State.Leavable (s : State) (c : Chan) : Prop :=
  (s.chan c).state ≠ .latched ∨ (s.budget.records.get c).isSome = true ∨ s.budget.hasEntry c = true

/-- The commands that can end in a controller restart (R133, R134). -/
def CanRestart (i : Instr) : Prop := i = .resetFilterExpiry ∨ ∃ fate request, i = .restartReplySignal fate request

/-- The commands that can find a fault (R56, R59). -/
def CanFault (i : Instr) : Prop := (∃ c arming, i = .tripEvent c arming) ∨ ∃ c, i = .startTimerExpiry c

/-- One move of the command `i`. -/
inductive Move (i : Instr) : State → State → Prop
  | frame {s t : State}
      (h : OnlyChanges [.powered, .uptime, .within, .draws, .pins, .sampler, .deliveries, .watches, .meter, .profile] s t) :
      Move i s t
  | schedule (s : State) (l : List SchedEntry) (h : SchedMove s.schedule l) : Move i s { s with schedule := l }
  | link (s : State) (f : Link → Link) (h : s.link.Keeps (f s.link)) : Move i s (s.onLink f)
  | notices (s : State) (f : Notices → Notices) (h : s.notices.Keeps (f s.notices)) : Move i s (s.onNotices f)
  | budget (s : State) (f : Budget → Budget) (h : s.budget.SameHoldings (f s.budget)) : Move i s (s.onBudget f)
  | scan (s : State) : Move i s s.runScan
  | settings (s : State) (x : BudgetSettings) (hi : i = .budgetConfig) : Move i s (s.onBudget fun b => { b with settings := x })
  | chan (s : State) (c : Chan) (f : Channel → Channel) (h : (s.chan c).SameCourse (f (s.chan c))) : Move i s (s.onChan c f)
  | leave (s : State) (c : Chan) (entered : ChState) (reason : OffReason) (he : entered = .off ∨ entered = .latched)
      (h : s.Leavable c) : Move i s (s.leave c entered reason)
  | fault (s : State) (c : Chan) (reason : OffReason) (hi : CanFault i)
      (h : (s.chan c).state = .on ∨ (s.chan c).state = .starting) : Move i s (s.faulted c reason)
  | join (s : State) (c : Chan) (origin : Origin) (h : (s.chan c).state = .off) : Move i s (s.joinQueue c origin)
  | cycleOff (s : State) (c : Chan) (h : (s.chan c).state = .on) : Move i s (s.enterCycleOff c)
  | pendCycle (s : State) (c : Chan) (request : Nat) (h : (s.chan c).state = .on) :
      Move i s (s.onChan c fun k => { k with cyclePending := some request })
  | clear (s : State) (c : Chan) (hi : i = .channelClear) (h : (s.chan c).state = .latched) :
      Move i s (s.onChan c fun k => { k with state := .off, retryCount := 0 })
  | starting (s : State) (c : Chan) (cause : ChangeCause)
      (h : (s.chan c).state = .queued ∨ ((s.chan c).state = .cycleOff ∧ (s.chan c).cycleReturnWaiting = true))
      (hg : s.budget.grantPending c = true) : Move i s (s.enterStarting c cause)
  | on (s : State) (c : Chan) (h : (s.chan c).state = .starting) : Move i s (s.enterOn c)
  | retryWindow (s : State) (c : Chan) (h : (s.chan c).state = .on) :
      Move i s (s.onChan c fun k => { k with retryCount := 0, timer := .none })
  | claim (s : State) (c : Chan) (expiry : Nat) (h : (s.chan c).state = .cycleOff) (ht : (s.chan c).timer = .cycle expiry) :
      Move i s (s.placeClaim c expiry)
  | cooldown (s : State) (c : Chan) (h : (s.chan c).state = .cooldown) : Move i s (s.cooldownEnded c)
  | configure (s : State) (c : Chan) (cfg : ChannelConfig) (hi : i = .channelConfig)
      (h : ChState.configurable (s.chan c).state = true) : Move i s (s.onChan c fun k => k.configure cfg)
  | powerLost (s : State) (hi : i = .powerOn ∨ i = .powerLoss) : Move i s s.powerLost
  | powerOn (s : State) (hi : i = .powerOn) : Move i s s.atPowerOn
  | restart (s : State) (hi : CanRestart i) : Move i s s.atRestart

/-- A chain of moves of the command `i`. -/
abbrev Moves (i : Instr) : State → State → Prop := Relation.ReflTransGen (Move i)

variable {i : Instr}

theorem Move.one {s t : State} (h : Move i s t) : Moves i s t := .single h

/-- What every move keeps, a chain of moves keeps. -/
theorem Moves.keeps {P : State → Prop} (hP : ∀ s t, Move i s t → P s → P t) {s t : State} (h : Moves i s t) (hs : P s) :
    P t := by
  induction h with
  | refl => exact hs
  | tail _ m ih => exact hP _ _ m ih

theorem Budget.SameHoldings.of_eq {b d : Budget} (hr : d.records = b.records) (hs : d.settings = b.settings)
    (hc : d.claims = b.claims) (hq : d.queue = b.queue) : b.SameHoldings d :=
  ⟨hr, hs, hc, (·.bypass), by simp [hq]⟩

theorem Budget.SameHoldings.trans {b d e : Budget} (h : b.SameHoldings d) (k : d.SameHoldings e) : b.SameHoldings e := by
  obtain ⟨h1, h2, h3, g, hg⟩ := h
  obtain ⟨k1, k2, k3, j, hj⟩ := k
  exact ⟨k1.trans h1, k2.trans h2, k3.trans h3, fun e => j { e with bypass := g e }, by rw [hj, hg, List.map_map]; rfl⟩

variable (s : State)

theorem afterBoundary_moves : Moves i s s.afterBoundary := Move.one (.frame (s.afterBoundary_only.mono (by simp)))

theorem draws_moves (n : Nat) : Moves i s { s with draws := n } := by
  refine Move.one (.frame fun p hp => ?_)
  cases p <;> first | rfl | simp at hp

theorem onProfile_moves (f : Profile → Profile) : Moves i s (s.onProfile f) :=
  Move.one (.frame ((s.onProfile_only f).mono (by simp)))

theorem setWatch_moves (n : Nat) (w : Option Watch) : Moves i s (s.setWatch n w) :=
  Move.one (.frame ((s.setWatch_only n w).mono (by simp)))

theorem deliveries_moves (d : Deliveries) : Moves i s { s with deliveries := d } := by
  refine Move.one (.frame fun p hp => ?_)
  cases p <;> first | rfl | simp at hp

theorem meter_moves (m : Meter) : Moves i s { s with meter := m } := by
  refine Move.one (.frame fun p hp => ?_)
  cases p <;> first | rfl | simp at hp

theorem pins_moves (x : Pins) : Moves i s { s with pins := x } := by
  refine Move.one (.frame fun p hp => ?_)
  cases p <;> first | rfl | simp at hp

theorem post_moves (chan : Option Chan) (body : NoticeBody) : Moves i s (s.post chan body) :=
  Move.one (.notices s _ (Notices.post_keeps _ _ _ _))

theorem postAll_moves (l : List (Option Chan × NoticeBody)) : Moves i s (s.postAll l) := by
  induction l generalizing s with
  | nil => exact .refl
  | cons x rest ih => exact (post_moves s x.1 x.2).trans (ih _)

theorem postSheds_moves (l : List (Chan × NoticeBody)) : Moves i s (s.postSheds l) := postAll_moves s _

/-! The end of an event. -/

theorem startReply_moves : Moves i s s.startReply := Move.one (.link s _ (Link.startReply_keeps _))

theorem startNotice_moves (n : Notice) : Moves i s (s.startNotice n) :=
  (Move.one (.notices s _ (Notices.frameStarted_keeps _ _))).trans (Move.one (.link _ _ (.of_eq rfl rfl)))

theorem arbitrate_moves : Moves i s s.arbitrate := by
  rcases s.arbitrate_cases with h | ⟨-, t, ht, h⟩
  · rw [h]
  · have hst : Moves i s t := by
      rcases ht with rfl | rfl
      · exact .refl
      · exact draws_moves s _
    rcases h with ⟨e, -, h⟩ | ⟨n, -, h⟩ <;> rw [h]
    · exact hst.trans (startReply_moves t)
    · exact hst.trans (startNotice_moves t n)

theorem nextFrame_moves : Moves i s s.nextFrame := by
  rcases s.nextFrame_cases with h | ⟨-, ⟨e, -, h⟩ | ⟨n, -, -, h⟩⟩ <;> rw [h]
  · exact startReply_moves s
  · exact startNotice_moves s n

theorem settle_moves : Moves i s s.settle := (Move.one (.scan s)).trans (arbitrate_moves _)

theorem reply_moves (e : ReqEntry) (a : Answer) : Moves i s (s.reply e a) :=
  (Move.one (.link s (fun l => l.reply e a) (.map _ rfl rfl))).trans (settle_moves _)

/-- A command of a live part is the moves of its event, or nothing. -/
theorem live_moves {f : State → State} {t : State} (hf : s.powered = true → Moves i s (f s)) (h : live f s = .next t) :
    Moves i s t := by
  unfold live at h
  split at h <;> cases h
  · exact hf ‹_›
  · exact .refl

/-- A request command is the moves of its owner and of the answer. -/
theorem dispatch_moves {α : Type} {k : ReqKind} {parse : List Byte → Option α} {serve : Nat → α → State → State × Answer}
    (hserve : ∀ id x s, Moves i s (serve id x s).1) {t : State} (h : live (State.dispatch k parse serve) s = .next t) :
    Moves i s t := by
  refine live_moves s (fun _ => ?_) h
  unfold State.dispatch
  split
  · exact .refl
  · refine ((afterBoundary_moves s).trans ?_).trans (reply_moves _ _ _)
    unfold State.checked
    repeat' split
    all_goals first | exact .refl | exact hserve _ _ _

/-! Channels. -/

variable {s}

theorem leave_moves {c : Chan} (h : (s.chan c).state ≠ .latched) {entered : ChState} (he : entered = .off ∨ entered = .latched)
    (reason : OffReason) : Moves i s (s.leave c entered reason) := Move.one (.leave s c entered reason he (.inl h))

theorem requestOn_moves (c : Chan) (origin : Origin) : Moves i s (s.requestOn c origin).1 := by
  rcases s.requestOn_cases c origin with h | ⟨h, hoff, -⟩ <;> rw [h]
  exact Move.one (.join s c origin hoff)

theorem requestOff_moves (c : Chan) (origin : Origin) : Moves i s (s.requestOff c origin).1 := by
  rcases s.requestOff_cases c origin with ⟨h, -⟩ | ⟨h, -, hl, -⟩ <;> rw [h]
  exact leave_moves hl (.inl rfl) _

/-- A CYCLE request is accepted in ON only (R10). -/
theorem cycleRefusal_none {k : Channel} (h : cycleRefusal k = none) : k.state = .on ∧ k.cyclePending = none := by
  cases hk : k.state <;> simp [cycleRefusal, hk] at h
  exact ⟨rfl, h⟩

theorem requestCycleHost_moves (c : Chan) (request : Nat) : Moves i s (s.requestCycleHost c request).1 := by
  unfold State.requestCycleHost
  split
  · exact .refl
  · exact Move.one (.pendCycle s c request (cycleRefusal_none ‹_›).1)

theorem requestCycleSchedule_moves (c : Chan) : Moves i s (s.requestCycleSchedule c).1 := by
  unfold State.requestCycleSchedule
  split
  · exact .refl
  · exact Move.one (.cycleOff s c (cycleRefusal_none ‹_›).1)

theorem latchAction_moves (c : Chan) (record : Nat) : Moves i s (s.latchAction c record).1 := by
  have latched (h : (s.chan c).state ≠ .latched) (body : NoticeBody) :
      Moves i s ((s.leave c .latched .watch).post (some c) body) :=
    (leave_moves h (.inr rfl) _).trans (post_moves _ _ _)
  unfold State.latchAction
  split
  all_goals first | exact .refl | exact latched (by simp_all) _

theorem faulted_moves (hi : CanFault i) {c : Chan} (h : (s.chan c).state = .on ∨ (s.chan c).state = .starting) (reason : OffReason)
    (body : NoticeBody) (fault : FaultKind) (left : ChState) :
    Moves i s (((s.faulted c reason).post (some c) body).postExhausted c fault left) := by
  refine ((Move.one (.fault s c reason hi h)).trans (post_moves _ (some c) body)).trans ?_
  unfold State.postExhausted
  split
  · exact post_moves _ _ _
  · exact .refl

theorem postChange_moves (c : Chan) (left : ChState) (cause : ChangeCause) : Moves i s (s.postChange c left cause) :=
  post_moves _ _ _

/-! Sheds and removals. -/

/-- A channel that is shed leaves for OFF, and joins again from there (R40, R41). -/
theorem shedChannel_moves {c : Chan} (h : s.Leavable c) (cause : ShedCause) : Moves i s (s.shedChannel c cause) := by
  have hleave : Moves i s (s.leave c .off (shedReason cause)) := Move.one (.leave s c _ _ (.inl rfl) h)
  unfold State.shedChannel
  dsimp only
  split
  · refine hleave.trans (Move.one (.join _ c _ ?_))
    rw [(s.leave_spec c _ _).1]
  · exact hleave

theorem shedWhile_moves (cause : ShedCause) (candidate : Reservation → Bool) (more : Budget → Bool) (n : Nat) :
    Moves i s (State.shedWhile cause candidate more n s).1 := by
  induction n generalizing s with
  | zero => exact .refl
  | succ n ih =>
    unfold State.shedWhile
    split
    · split
      · exact .refl
      · next c r hr =>
        refine (shedChannel_moves (.inr (.inl ?_)) cause).trans ih
        simp [(Budget.firstInRank_some _ hr).1]
    · exact .refl

/-- The channels of entries, or OFF after an earlier removal. -/
theorem removeEntries_moves (cs : List Chan) (h : ∀ c ∈ cs, (s.chan c).state = .off ∨ s.budget.hasEntry c = true) :
    Moves i s (s.removeEntries cs) := by
  induction cs generalizing s with
  | nil => exact .refl
  | cons c rest ih =>
    have hc : s.Leavable c := (h c (by simp)).elim (fun h => .inl (by simp [h])) fun h => .inr (.inr h)
    refine ((Move.one (.leave s c .off .budget (.inl rfl) hc)).trans (postChange_moves c _ _)).trans (ih fun d hd => ?_)
    obtain ⟨h1, h2, h3⟩ := s.leave_spec c .off .budget
    simp only [State.postChange, State.post_chan, State.post_budget]
    by_cases hdc : d = c
    · subst hdc
      exact .inl (by rw [h1])
    · rw [h3 d hdc, h2]
      refine (h d (List.mem_cons_of_mem _ hd)).imp_right fun he => ?_
      obtain ⟨x, hx, hxc⟩ := List.any_eq_true.1 he
      rw [beq_iff_eq] at hxc
      exact List.any_eq_true.2 ⟨x, (s.budget.drop_spec c).2.2.1 x |>.2 ⟨hx, by rwa [hxc]⟩, by simpa using hxc⟩

theorem tooLarge_hasEntry {b : Budget} {c : Chan} (h : c ∈ b.tooLarge) : b.hasEntry c = true := by
  obtain ⟨x, hx, rfl⟩ := List.mem_map.1 h
  exact List.any_eq_true.2 ⟨x, (List.mem_filter.1 hx).1, by simp⟩

theorem scanDue_sameHoldings (b : Budget) : b.SameHoldings { b with scanDue := true } := .of_eq rfl rfl rfl rfl

theorem capBypass_sameHoldings (b : Budget) : b.SameHoldings b.capBypass := ⟨rfl, rfl, rfl, _, rfl⟩

theorem retestBus_sameHoldings (b : Budget) : b.SameHoldings b.retestBus := by
  unfold Budget.retestBus
  split <;> exact .of_eq rfl rfl rfl rfl

theorem applyBudget_moves (hi : i = .budgetConfig) (x : BudgetSettings) : Moves i s (s.applyBudget x).1 := by
  unfold State.applyBudget
  dsimp only
  refine .trans ?_ (Move.one (.budget _ _ (scanDue_sameHoldings _)))
  refine .trans ?_ (onProfile_moves _ _)
  refine .trans ?_ (Move.one (.budget _ (fun b => b.capBypass.retestBus) ((capBypass_sameHoldings _).trans (retestBus_sameHoldings _))))
  refine .trans ?_ (removeEntries_moves _ fun c hc => .inr (tooLarge_hasEntry hc))
  refine .trans ?_ (postSheds_moves _ _)
  exact (Move.one (.settings s x hi)).trans (shedWhile_moves _ _ _ _)

theorem hostLossOff_moves (cs : List Chan) : Moves i s (s.hostLossOff cs) := by
  induction cs generalizing s with
  | nil => exact .refl
  | cons c rest ih => exact (requestOff_moves c .session).trans ih

theorem endSession_moves : Moves i s s.endSession :=
  (Move.one (.notices s _ (Notices.endSession_keeps _))).trans (Move.one (.link _ _ (.of_eq rfl rfl)))

/-! Starts. -/

/-- The joins of a start, of channels that are OFF (R132, R135). -/
theorem startJoins_moves {origin : Origin} {cs : List Chan} (hnodup : cs.Nodup) (h : ∀ c ∈ cs, (s.chan c).state = .off) :
    Moves i s (State.startJoins origin cs s).1 := by
  induction cs generalizing s with
  | nil => exact .refl
  | cons c rest ih =>
    obtain ⟨hc, hr⟩ := List.nodup_cons.1 hnodup
    have hoff := h c (by simp)
    have hrest : ∀ d ∈ rest, d ≠ c ∧ (s.chan d).state = .off :=
      fun d hd => ⟨fun hdc => hc (hdc ▸ hd), h d (List.mem_cons_of_mem _ hd)⟩
    unfold State.startJoins
    split
    · refine (Move.one (.join s c origin hoff)).trans (ih hr fun d hd => ?_)
      rw [(s.joinQueue_spec c origin).2.2 d (hrest d hd).1]
      exact (hrest d hd).2
    · refine (Move.one (.chan s c _ ⟨?_, id, id⟩)).trans (ih hr fun d hd => ?_)
      · rw [← hoff]
      · rw [s.onChan_chan_ne _ (hrest d hd).1]
        exact (hrest d hd).2

theorem atPowerOn_chan (c : Chan) :
    s.atPowerOn.chan c = Channel.atPowerOn (s.atPowerOn.profile.loaded.channels.get c) := PerChan.get_ofFn ..

theorem powerOn_moves (hi : i = .powerOn) : Moves i s s.powerOn := by
  unfold State.powerOn
  dsimp only
  refine (((Move.one (.powerOn s hi)).trans (startJoins_moves ((classOrder_nodup _).filter _) fun c hc => ?_)).trans
    (post_moves _ _ _)).trans (settle_moves _)
  have henabled : (s.atPowerOn.profile.loaded.channels.get c).enabled = true :=
    (Bool.and_eq_true_iff.1 (List.mem_filter.1 hc).2).1
  rw [atPowerOn_chan]
  simp [Channel.atPowerOn, henabled]

theorem atRestart_chan (c : Chan) :
    s.atRestart.chan c = (s.chan c).atRestart (s.atRestart.profile.loaded.channels.get c) := PerChan.get_ofFn ..

theorem restartSheds_moves : Moves i s s.restartSheds.1 := by
  unfold State.restartSheds
  dsimp only
  split
  · exact (shedWhile_moves _ _ _ _).trans (shedWhile_moves _ _ _ _)
  · exact shedWhile_moves _ _ _ _

theorem restartJoins_off {c : Chan} (hc : c ∈ restartJoins s.chans s.atRestart.profile.loaded.channels) :
    (s.atRestart.chan c).state = .off := by
  obtain ⟨-, h⟩ := List.mem_filter.1 hc
  rw [atRestart_chan]
  simp only [Bool.and_eq_true] at h
  have hst : (s.chan c).state = .starting ∨ (s.chan c).state = .cycleOff ∨ (s.chan c).state = .queued := by
    have := h.2
    change (match (s.chan c).state with
      | .starting | .cycleOff | .queued => true
      | .disabled | .off | .on | .cooldown | .latched => false) = true at this
    split at this <;> simp_all
  rcases hst with hst | hst | hst <;> simp [Channel.atRestart, restartState, h.1, hst]

theorem controllerRestart_moves (hi : CanRestart i) (cause : RestartCause) : Moves i s (s.controllerRestart cause) := by
  unfold State.controllerRestart
  dsimp only
  refine .trans ?_ (settle_moves _)
  refine .trans ?_ (postSheds_moves _ _)
  refine .trans ?_ (post_moves _ _ _)
  refine .trans ?_ restartSheds_moves
  exact (Move.one (.restart s hi)).trans (startJoins_moves ((classOrder_nodup _).filter _) fun c hc => restartJoins_off hc)

/-! Watches and the schedule. -/

theorem watchAction_moves (n : Nat) (action : WatchAction) : Moves i s (s.watchAction n action).1 := by
  cases action with
  | notify => exact .refl
  | switchOff c => exact (requestOff_moves c .watch).trans (Move.one (.scan _))
  | latch c => exact (latchAction_moves c n).trans (Move.one (.scan _))

theorem watchRecord_moves (r : Round) (n : Nat) : Moves i s (s.watchRecord r n) := by
  unfold State.watchRecord
  split
  · exact .refl
  · next w _ =>
    dsimp only
    split
    · unfold State.judgeWatch
      split
      · exact ((setWatch_moves _ _ _).trans (watchAction_moves _ _)).trans (post_moves _ _ _)
      · unfold State.watchFall
        dsimp only
        split
        · exact (setWatch_moves _ _ _).trans (post_moves _ _ _)
        · exact setWatch_moves _ _ _
      · exact setWatch_moves _ _ _
    · exact setWatch_moves _ _ _

theorem watchRecords_moves (r : Round) (ns : List Nat) : Moves i s (s.watchRecords r ns) := by
  induction ns generalizing s with
  | nil => exact .refl
  | cons n rest ih => exact (watchRecord_moves r n).trans ih

theorem scheduleRequest_moves (e : SchedEntry) : Moves i s (s.scheduleRequest e).1 := by
  unfold State.scheduleRequest
  split
  · exact requestOn_moves _ _
  · exact requestOff_moves _ _
  · exact requestCycleSchedule_moves _

/-- A request of the schedule leaves the list alone. -/
theorem scheduleRequest_schedule (s : State) (e : SchedEntry) : (s.scheduleRequest e).1.schedule = s.schedule := by
  unfold State.scheduleRequest
  split
  · exact s.requestOn_only _ _ .schedule (by simp)
  · exact s.requestOff_only _ _ .schedule (by simp)
  · exact s.requestCycleSchedule_only _ .schedule (by simp)

theorem fire_moves {e : SchedEntry} {rest : List SchedEntry} (h : s.schedule = e :: rest) : Moves i s (s.fire e rest) := by
  unfold State.fire
  dsimp only
  refine (((scheduleRequest_moves e).trans (Move.one (.scan _))).trans (Move.one (.schedule _ _ ?_))).trans (post_moves _ _ _)
  rw [State.runScan_schedule, scheduleRequest_schedule, h]
  exact .fire e rest _

theorem firePass_moves (n : Nat) : Moves i s (State.firePass n s) := by
  induction n generalizing s with
  | zero => exact .refl
  | succ n ih =>
    unfold State.firePass
    split
    · exact .refl
    · split
      · exact (fire_moves ‹_›).trans ih
      · exact .refl

end Sys2Proof.Machine
end

section
/-! Proofs: every command is a chain of moves. The owners of the requests first, then the events of the blocks, then `exec_moves`. -/

namespace Sys2Proof.Machine
variable {i : Instr} {s : State}

/-! The owners of the requests. -/

theorem onLink_moves {f : Link → Link} (h : s.link.Keeps (f s.link)) : Moves i s (s.onLink f) := Move.one (.link s f h)

theorem onNotices_moves {f : Notices → Notices} (h : s.notices.Keeps (f s.notices)) : Moves i s (s.onNotices f) :=
  Move.one (.notices s f h)

theorem markUnsaved_moves (s : State) : Moves i s s.markUnsaved := onProfile_moves s _

theorem serveLinkStatus_moves (id : Nat) (clear : Bool) (s : State) : Moves i s (serveLinkStatus id clear s).1 := by
  cases clear
  · exact .refl
  · exact onLink_moves (f := fun l => { l with stats := LinkStats.zero }) (.of_eq rfl rfl)

theorem serveLinkConfig_moves (id : Nat) (rate : LinkRate) (s : State) : Moves i s (serveLinkConfig id rate s).1 := by
  unfold serveLinkConfig
  split
  · exact .refl
  · exact (onLink_moves (f := fun l => { l with configuredRate := rate }) (.of_eq rfl rfl)).trans (markUnsaved_moves _)

theorem serveSessionOpen_moves (id keepalive : Nat) (s : State) : Moves i s (serveSessionOpen id keepalive s).1 := by
  unfold serveSessionOpen
  split
  · exact .refl
  · dsimp only
    exact onNotices_moves (Notices.openSession_keeps _ _ _ _)

theorem servePing_moves (id : Nat) (x : Unit) (s : State) : Moves i s (servePing id x s).1 := by
  unfold servePing
  split
  · exact .refl
  · exact draws_moves s _

theorem serveNoticeAck_moves (id nseq : Nat) (s : State) : Moves i s (serveNoticeAck id nseq s).1 := by
  unfold serveNoticeAck
  split
  · exact .refl
  · next h =>
    dsimp only
    exact onNotices_moves (Notices.acknowledge_keeps h _)

theorem serveSubscribe_moves (id : Nat) (set : BitVec 13) (s : State) : Moves i s (serveSubscribe id set s).1 := by
  unfold serveSubscribe
  split
  · exact .refl
  · exact (onNotices_moves (f := fun u => { u with subscriptions := set })
      (.of_eq rfl rfl rfl rfl rfl rfl rfl fun _ => rfl)).trans (markUnsaved_moves _)

theorem sampler_moves (s : State) (p : Sampler) : Moves i s { s with sampler := p } := by
  refine Move.one (.frame fun q hq => ?_)
  cases q <;> first | rfl | simp at hq

theorem serveChannelConfig_moves (id : Nat) (x : Chan × ChannelConfig) (s : State) :
    Moves .channelConfig s (serveChannelConfig id x s).1 := by
  unfold serveChannelConfig
  split
  · exact .refl
  · split
    · next h =>
      exact ((sampler_moves s (s.sampler.setWindow x.1 (s.chan x.1).cfg.reportWindow x.2.reportWindow)).trans
        (Move.one (.configure _ x.1 x.2 rfl h))).trans (markUnsaved_moves _)
    · exact .refl

theorem serveChannelCycle_moves (id : Nat) (c : Chan) (s : State) : Moves i s (serveChannelCycle id c s).1 := by
  unfold serveChannelCycle
  dsimp only
  split <;> exact requestCycleHost_moves c id

theorem requestClear_moves (c : Chan) : Moves .channelClear s (s.requestClear c).1 := by
  unfold State.requestClear
  split
  · exact Move.one (.clear s c rfl ‹_›)
  · exact .refl

theorem serveBudgetConfig_moves (id : Nat) (x : BudgetSettings × Bool) (s : State) :
    Moves .budgetConfig s (serveBudgetConfig id x s).1 := by
  unfold serveBudgetConfig
  split
  · exact .refl
  · exact applyBudget_moves rfl _

theorem reportSnapshot_moves (s : State) : Moves i s s.reportSnapshot.1 := Move.one (.frame (s.reportSnapshot_only.mono (by simp)))

theorem serveEnergyRead_moves (id : Nat) (x : List Chan × Bool) (s : State) : Moves i s (serveEnergyRead id x s).1 := by
  unfold serveEnergyRead
  dsimp only
  split
  · exact (reportSnapshot_moves s).trans (meter_moves _ _)
  · exact reportSnapshot_moves s

theorem servePeakRead_moves (id : Nat) (x : List Chan × Bool × Bool) (s : State) : Moves i s (servePeakRead id x s).1 := by
  unfold servePeakRead
  dsimp only
  split
  · exact (reportSnapshot_moves s).trans (meter_moves _ _)
  · exact reportSnapshot_moves s

theorem serveWatchSet_moves (id : Nat) (x : Nat × WatchConfig) (s : State) : Moves i s (serveWatchSet id x s).1 := by
  unfold serveWatchSet
  split
  · exact .refl
  · exact ((draws_moves s _).trans (setWatch_moves _ _ _)).trans (markUnsaved_moves _)

theorem serveWatchDelete_moves (id n : Nat) (s : State) : Moves i s (serveWatchDelete id n s).1 := by
  unfold serveWatchDelete
  repeat' split
  · exact .refl
  · exact .refl
  · exact (setWatch_moves _ _ _).trans (markUnsaved_moves _)

theorem serveWatchClear_moves (id n : Nat) (s : State) : Moves i s (serveWatchClear id n s).1 := by
  unfold serveWatchClear
  split
  · exact .refl
  · exact setWatch_moves _ _ _

theorem serveSchedAdd_moves (id : Nat) (f : SchedAddFields) (s : State) : Moves i s (serveSchedAdd id f s).1 := by
  unfold serveSchedAdd
  split
  · exact .refl
  · next h => exact (Move.one (.schedule s _ (.add _ f _ h))).trans (firePass_moves _)

theorem serveSchedCancel_moves (id tag : Nat) (s : State) : Moves i s (serveSchedCancel id tag s).1 := by
  unfold serveSchedCancel
  split
  · exact .refl
  · exact Move.one (.schedule s _ (.leave _ _ List.eraseP_sublist))

theorem serveProfileSave_moves (id : Nat) (x : Unit) (s : State) : Moves i s (serveProfileSave id x s).1 := by
  unfold serveProfileSave
  split
  · exact .refl
  dsimp only
  exact onProfile_moves _ _

theorem serveRestart_moves (id : Nat) (x : Unit) (s : State) : Moves i s (serveRestart id x s).1 := by
  unfold serveRestart
  repeat' split
  · exact .refl
  · exact .refl
  dsimp only
  exact onProfile_moves _ _

/-! The events of the blocks. -/

theorem onBudget_moves {f : Budget → Budget} (h : s.budget.SameHoldings (f s.budget)) : Moves i s (s.onBudget f) :=
  Move.one (.budget s f h)

theorem resetFilterExpired_moves : Moves .resetFilterExpiry s s.resetFilterExpired := by
  unfold State.resetFilterExpired
  dsimp only
  repeat' split
  · exact (onProfile_moves _ _).trans (controllerRestart_moves (.inl rfl) _)
  · exact onProfile_moves _ _
  · exact .refl

theorem takeRestartSignal_moves (fate : ReplyFate) (request : Nat) :
    Moves (.restartReplySignal fate request) s (s.takeRestartSignal fate request) := by
  have hsignal (l : List ReplySignal) : Moves (.restartReplySignal fate request) s
      (s.afterBoundary.onLink fun x => { x with signals := l }) :=
    (afterBoundary_moves s).trans (onLink_moves (.of_eq rfl rfl))
  unfold State.takeRestartSignal
  dsimp only
  repeat' split
  · exact (hsignal _).trans (controllerRestart_moves (.inr ⟨_, _, rfl⟩) _)
  · exact hsignal _
  · exact .refl

theorem shedAsserted_moves : Moves i s s.shedAsserted :=
  ((shedWhile_moves _ _ _ _).trans (postSheds_moves _ _)).trans (post_moves _ _ _)

theorem shedReleased_moves : Moves i s s.shedReleased := (post_moves _ _ _).trans (onBudget_moves (scanDue_sameHoldings _))

theorem shedLevel_sameHoldings (b : Budget) (level : Level) (timer : Option Nat) :
    b.SameHoldings { b with shedLevel := level, shedFilter := timer } := .of_eq rfl rfl rfl rfl

theorem shedFilterExpired_moves : Moves i s s.shedFilterExpired := by
  have hlevel : Moves i s (s.onBudget fun b => { b with shedLevel := s.pins.shed, shedFilter := none }) :=
    onBudget_moves (shedLevel_sameHoldings _ _ _)
  unfold State.shedFilterExpired
  split
  · dsimp only
    split
    · exact (hlevel.trans shedAsserted_moves).trans (settle_moves _)
    · exact (hlevel.trans shedReleased_moves).trans (settle_moves _)
    · exact hlevel
  · exact .refl

theorem overloadShed_moves : Moves i s s.overloadShed := by
  have hhold : Moves i s (s.onBudget fun b => { b with holdTimer := some (s.deadline b.settings.overloadHold) }) :=
    onBudget_moves (.of_eq rfl rfl rfl rfl)
  unfold State.overloadShed
  dsimp only
  split
  · exact hhold.trans (post_moves _ _ _)
  · next c r hr =>
    refine ((hhold.trans (post_moves _ _ _)).trans (shedChannel_moves (.inr (.inl ?_)) _)).trans (post_moves _ _ _)
    simp only [State.post_budget, (Budget.firstInRank_some _ hr).1, Option.isSome_some]

theorem completeRound_moves (r : Readings) : Moves i s (s.completeRound r) := by
  unfold State.completeRound
  split
  · exact .refl
  · refine Move.one (.frame fun q hq => ?_)
    cases q <;> first | rfl | simp at hq

theorem takeSample_moves (c : Chan) (x : Sample) : Moves i s (s.takeSample c x) := by
  have hlatest : Moves i s (s.onChan c fun k => { k with latest := x }) := Move.one (.chan s c _ ⟨rfl, id, id⟩)
  unfold State.takeSample
  dsimp only
  split
  · next h =>
    refine hlatest.trans (Move.one (.on _ c ?_))
    rw [State.onChan_chan_self]
    exact h.1
  · exact hlatest

theorem deliverChannel_moves (c : Chan) : Moves i s (s.deliverChannel c) := by
  unfold State.deliverChannel
  split
  · exact .refl
  · exact (((afterBoundary_moves s).trans (deliveries_moves _ _)).trans (takeSample_moves c _)).trans (settle_moves _)

theorem blockEvent_sameHoldings (b : Budget) (e : Nat) : b.SameHoldings (b.blockEvent e) := by
  unfold Budget.blockEvent
  split <;> exact .of_eq rfl rfl rfl rfl

theorem addRound_sameHoldings (b : Budget) (total e : Nat) : b.SameHoldings (b.addRound total e) := by
  unfold Budget.addRound
  split
  · exact .of_eq rfl rfl rfl rfl
  · exact .trans (d := { b with overSum := 0, overCount := 0, overAverage := (b.overSum + total) / 16 }) (.of_eq rfl rfl rfl rfl)
      (blockEvent_sameHoldings _ _)

theorem takeBusSample_sameHoldings (b : Budget) (x : BusSample) (e : Nat) : b.SameHoldings (b.takeSample x e) :=
  .trans (d := { b with lastBus := some x.voltage }.setBusGood (busGoodFlag x.voltage b.settings.busMinimum))
    (.of_eq rfl rfl rfl rfl) (addRound_sameHoldings _ _ _)

theorem deliverBudget_moves : Moves i s s.deliverBudget := by
  unfold State.deliverBudget
  split
  · exact .refl
  · exact (((afterBoundary_moves s).trans (deliveries_moves _ _)).trans (onBudget_moves (takeBusSample_sameHoldings _ _ _))).trans
      (settle_moves _)

theorem deliverWatch_moves : Moves i s s.deliverWatch := by
  unfold State.deliverWatch
  split
  · exact .refl
  · exact (((afterBoundary_moves s).trans (deliveries_moves _ _)).trans (watchRecords_moves _ _)).trans (settle_moves _)

theorem deliverMeter_moves : Moves i s s.deliverMeter := by
  unfold State.deliverMeter
  split
  · exact .refl
  · next r rest _ =>
    exact ((((afterBoundary_moves s).trans (deliveries_moves _ { s.deliveries with toMeter := rest })).trans
      (meter_moves _ (s.meter.add r))).trans (postAll_moves _ _)).trans (settle_moves _)

theorem senseCurrent_sameCourse (k : Channel) (current : Nat) :
    k.SameCourse { k with comparator := k.comparator.senseCurrent current } := by
  unfold Comparator.senseCurrent
  split
  · next h => exact ⟨rfl, fun _ => h, fun _ _ => h⟩
  · exact ⟨rfl, id, id⟩

theorem operate_sameCourse (k : Channel) : k.SameCourse k.operate := ⟨rfl, by simp [Channel.operate, Comparator.disarm],
  by simp [Channel.operate, Comparator.disarm]⟩

theorem removeTrip_moves (c : Chan) (arming : Nat) : Moves i s (s.removeTrip c arming) := Move.one (.chan s c _ ⟨rfl, id, id⟩)

theorem takeTrip_moves (c : Chan) (arming : Nat) : Moves (.tripEvent c arming) s (s.takeTrip c arming) := by
  unfold State.takeTrip
  dsimp only
  repeat' split
  · next h =>
    refine ((removeTrip_moves c arming).trans (faulted_moves (.inl ⟨_, _, rfl⟩) (.inl ?_) _ _ _ _)).trans (settle_moves _)
    rw [State.removeTrip, State.onChan_chan_self]
    exact h.1
  · exact removeTrip_moves c arming
  · exact .refl

theorem cycleExpired_moves (c : Chan) : Moves i s (s.cycleExpired c) := by
  unfold State.cycleExpired
  split
  · split
    · exact (Move.one (.claim s c _ ‹_› ‹_›)).trans (settle_moves _)
    · exact .refl
  · exact .refl

theorem removeGrant_moves (g : Grant) : Moves i s (s.removeGrant g) := onBudget_moves (.of_eq rfl rfl rfl rfl)

theorem takeQueueGrant_moves (c : Chan) (join : Nat) : Moves i s (s.takeQueueGrant c join) := by
  unfold State.takeQueueGrant
  dsimp only
  repeat' split
  · next h => exact ((removeGrant_moves _).trans (Move.one (.starting _ c _ (.inl h.1) h.2.2))).trans (settle_moves _)
  · exact removeGrant_moves _
  · exact .refl

theorem takeCycleGrant_moves (c : Chan) (claim : Nat) : Moves i s (s.takeCycleGrant c claim) := by
  unfold State.takeCycleGrant
  dsimp only
  repeat' split
  · next h => exact ((removeGrant_moves _).trans (Move.one (.starting _ c _ (.inr ⟨h.1, h.2.1⟩) h.2.2.2))).trans (settle_moves _)
  · exact removeGrant_moves _
  · exact .refl

theorem takeCycleSignal_moves (c : Chan) (request : Nat) (fate : ReplyFate) : Moves i s (s.takeCycleSignal c request fate) := by
  have hsignal (x : ReplySignal) : Moves i s (s.afterBoundary.removeSignal x) :=
    (afterBoundary_moves s).trans (onLink_moves (.of_eq rfl rfl))
  unfold State.takeCycleSignal
  dsimp only
  repeat' split
  · next h => exact (((hsignal _).trans (Move.one (.cycleOff _ c h.1))).trans (postChange_moves _ _ _)).trans (settle_moves _)
  · exact hsignal _
  · exact .refl

theorem verifyEnded_moves : Moves i s s.verifyEnded := by
  unfold State.verifyEnded
  split
  · exact ((onProfile_moves _ _).trans (post_moves _ _ _)).trans (settle_moves _)
  · exact .refl

theorem completeFrame_moves (last : Byte) : Moves i s (s.completeFrame last) := by
  unfold State.completeFrame
  split
  · split
    · exact ((afterBoundary_moves s).trans (onLink_moves (Link.frameDone_keeps _ _ _ _ _))).trans (settle_moves _)
    · exact .refl
  · exact .refl

theorem takeCharacter_moves (char : Byte) : Moves i s (s.takeCharacter char) := by
  unfold State.takeCharacter
  split
  · exact ((afterBoundary_moves s).trans (onLink_moves (Link.takeCharacter_keeps _ _ _))).trans (settle_moves _)
  · exact .refl

theorem takeValidFrame_moves : Moves i s s.takeValidFrame := by
  unfold State.takeValidFrame
  split
  · exact (((afterBoundary_moves s).trans (onLink_moves (f := Link.signalTaken) (.map _ rfl rfl))).trans
      (onNotices_moves (Notices.takeValidFrame_keeps _ _ _))).trans (settle_moves _)
  · exact .refl

theorem takeNoticeSent_moves (nseq : Nat) : Moves i s (s.takeNoticeSent nseq) := by
  unfold State.takeNoticeSent
  split
  · exact (afterBoundary_moves s).trans (onNotices_moves (.trans
      (.of_eq (v := { s.notices with sentSignals := s.notices.sentSignals.erase nseq }) rfl rfl rfl rfl rfl rfl rfl fun _ => rfl)
      (Notices.takeSent_keeps _ _ _)))
  · exact .refl

theorem linkRestart_moves : Moves i s s.linkRestart := by
  unfold State.linkRestart
  dsimp only
  split
  · exact (onLink_moves (Link.restart_keeps _)).trans endSession_moves
  · exact onLink_moves (Link.restart_keeps _)

theorem frameLeft_moves : Moves i s s.frameLeft := by
  unfold State.frameLeft
  split
  · exact .refl
  · exact (onLink_moves (Link.replyLeft_keeps _)).trans (nextFrame_moves _)
  · refine ((onLink_moves (f := fun l => { l with tx := .idle }) (.of_eq rfl rfl)).trans (onNotices_moves ?_)).trans (nextFrame_moves _)
    split <;> exact .of_eq rfl rfl rfl rfl rfl rfl rfl fun _ => rfl

theorem setReceiveLine_moves (level : LineLevel) : Moves i s (s.setReceiveLine level) := by
  have hlink (l : Link) : l.Keeps (l.lineChanged level (s.deadline 20)) := by
    unfold Link.lineChanged
    repeat' split
    all_goals exact .of_eq rfl rfl
  unfold State.setReceiveLine
  dsimp only
  repeat' split
  · exact .refl
  · exact (pins_moves s _).trans (onLink_moves (hlink _))
  · exact pins_moves s _

theorem setShedLine_moves (level : Level) : Moves i s (s.setShedLine level) := by
  unfold State.setShedLine
  dsimp only
  split
  · exact (pins_moves s _).trans (onBudget_moves (.of_eq rfl rfl rfl rfl))
  · exact pins_moves s _

theorem setResetLine_moves (level : Level) : Moves i s (s.setResetLine level) := by
  unfold State.setResetLine
  dsimp only
  split
  · exact (pins_moves s _).trans (onProfile_moves _ _)
  · exact pins_moves s _

theorem hostLost_moves : Moves i s s.hostLost := (endSession_moves.trans (hostLossOff_moves _)).trans (post_moves _ _ _)

theorem dispatchUnknown_moves : Moves i s s.dispatchUnknown := by
  unfold State.dispatchUnknown
  repeat' split
  · exact .refl
  · exact (afterBoundary_moves s).trans (reply_moves _ _ _)
  · exact .refl

/-! Every command. -/

/-- Every command is a chain of moves. -/
theorem exec_moves {i : Instr} {s t : State} (h : exec i s = .next t) : Moves i s t := by
  cases i with
  | powerOn => cases h; exact (Move.one (.powerLost s (.inl rfl))).trans (powerOn_moves rfl)
  | powerLoss => cases h; exact Move.one (.powerLost s (.inr rfl))
  | resetLineChange level => cases h; exact setResetLine_moves level
  | shedLineChange level => cases h; exact setShedLine_moves level
  | receiveLineChange level => cases h; exact setReceiveLine_moves level
  | resetFilterExpiry =>
    rw [exec_resetFilterExpiry] at h
    exact live_moves s (fun _ => resetFilterExpired_moves) h
  | shedFilterExpiry =>
    rw [exec_shedFilterExpiry] at h
    exact live_moves s (fun _ => shedFilterExpired_moves) h
  | roundComplete r =>
    rw [exec_roundComplete] at h
    exact live_moves s (fun _ => completeRound_moves r) h
  | roundDeliveryChannel c =>
    rw [exec_roundDeliveryChannel] at h
    exact live_moves s (fun _ => deliverChannel_moves c) h
  | roundDeliveryBudget =>
    rw [exec_roundDeliveryBudget] at h
    exact live_moves s (fun _ => deliverBudget_moves) h
  | overloadHoldExpiry =>
    rw [exec_overloadHoldExpiry] at h
    refine live_moves s (fun _ => ?_) h
    split
    · exact overloadShed_moves.trans (settle_moves _)
    · exact .refl
  | roundDeliveryWatch =>
    rw [exec_roundDeliveryWatch] at h
    exact live_moves s (fun _ => deliverWatch_moves) h
  | roundDeliveryMeter =>
    rw [exec_roundDeliveryMeter] at h
    exact live_moves s (fun _ => deliverMeter_moves) h
  | senseCurrentChange c current =>
    rw [exec_senseCurrentChange] at h
    exact live_moves s (fun _ => (afterBoundary_moves s).trans (Move.one (.chan _ c _ (senseCurrent_sameCourse _ _)))) h
  | comparatorOperate c =>
    rw [exec_comparatorOperate] at h
    refine live_moves s (fun _ => ?_) h
    split
    · exact (afterBoundary_moves s).trans (Move.one (.chan _ c _ (operate_sameCourse _)))
    · exact .refl
  | tripEvent c arming =>
    rw [exec_tripEvent] at h
    exact live_moves s (fun _ => takeTrip_moves c arming) h
  | startTimerExpiry c =>
    rw [exec_startTimerExpiry] at h
    refine live_moves s (fun _ => ?_) h
    split
    · next hd => exact (faulted_moves (.inr ⟨c, rfl⟩) (.inr hd.1) _ _ _ _).trans (settle_moves _)
    · exact .refl
  | retryWindowExpiry c =>
    rw [exec_retryWindowExpiry] at h
    refine live_moves s (fun _ => ?_) h
    split
    · next hd => exact Move.one (.retryWindow s c hd.1)
    · exact .refl
  | cycleTimerExpiry c =>
    rw [exec_cycleTimerExpiry] at h
    exact live_moves s (fun _ => cycleExpired_moves c) h
  | cooldownExpiry c =>
    rw [exec_cooldownExpiry] at h
    refine live_moves s (fun _ => ?_) h
    split
    · next hd => exact (Move.one (.cooldown s c hd.1)).trans (settle_moves _)
    · exact .refl
  | queueGrant c join =>
    rw [exec_queueGrant] at h
    exact live_moves s (fun _ => takeQueueGrant_moves c join) h
  | cycleReturnGrant c claim =>
    rw [exec_cycleReturnGrant] at h
    exact live_moves s (fun _ => takeCycleGrant_moves c claim) h
  | replySentCycle c request =>
    rw [exec_replySentCycle] at h
    exact live_moves s (fun _ => takeCycleSignal_moves c request _) h
  | replyDiscardedCycle c request =>
    rw [exec_replyDiscardedCycle] at h
    exact live_moves s (fun _ => takeCycleSignal_moves c request _) h
  | restartReplySignal fate request =>
    rw [exec_restartReplySignal] at h
    exact live_moves s (fun _ => takeRestartSignal_moves fate request) h
  | duePass =>
    rw [exec_duePass] at h
    exact live_moves s (fun _ => (firePass_moves _).trans (settle_moves _)) h
  | saveWriteEnd result =>
    rw [exec_saveWriteEnd] at h
    refine live_moves s (fun _ => ?_) h
    split
    · exact onProfile_moves _ _
    · exact .refl
  | saveVerifyEnd =>
    rw [exec_saveVerifyEnd] at h
    exact live_moves s (fun _ => verifyEnded_moves) h
  | receiveCharacterError =>
    rw [exec_receiveCharacterError] at h
    refine live_moves s (fun _ => ?_) h
    split
    · exact (afterBoundary_moves s).trans (onLink_moves (Link.takeError_keeps _))
    · exact .refl
  | frameAbandonBadLen len =>
    rw [exec_frameAbandonBadLen] at h
    refine live_moves s (fun _ => ?_) h
    split
    · exact (afterBoundary_moves s).trans (onLink_moves (.of_eq rfl rfl))
    · exact .refl
  | gapTimerExpiry =>
    rw [exec_gapTimerExpiry] at h
    refine live_moves s (fun _ => ?_) h
    split
    · exact onLink_moves (.of_eq rfl rfl)
    · exact .refl
  | frameComplete last =>
    rw [exec_frameComplete] at h
    exact live_moves s (fun _ => completeFrame_moves last) h
  | validFrameSignal =>
    rw [exec_validFrameSignal] at h
    exact live_moves s (fun _ => takeValidFrame_moves) h
  | breakTimerExpiry =>
    rw [exec_breakTimerExpiry] at h
    refine live_moves s (fun _ => ?_) h
    split
    · exact linkRestart_moves
    · exact .refl
  | transmitFrameEnd =>
    rw [exec_transmitFrameEnd] at h
    refine live_moves s (fun _ => ?_) h
    split
    · exact .refl
    · exact (afterBoundary_moves s).trans frameLeft_moves
  | noticeSent nseq =>
    rw [exec_noticeSent] at h
    exact live_moves s (fun _ => takeNoticeSent_moves nseq) h
  | ackTimerExpiry =>
    rw [exec_ackTimerExpiry] at h
    refine live_moves s (fun _ => ?_) h
    split
    · next hd => exact (onNotices_moves (Notices.ackExpiry_keeps hd)).trans (settle_moves _)
    · exact .refl
  | keepaliveExpiry =>
    rw [exec_keepaliveExpiry] at h
    refine live_moves s (fun _ => ?_) h
    split
    · exact hostLost_moves.trans (settle_moves _)
    · exact .refl
  | unknownKind =>
    rw [exec_unknownKind] at h
    exact live_moves s (fun _ => dispatchUnknown_moves) h
  | characterReceived char =>
    rw [exec_characterReceived] at h
    exact live_moves s (fun _ => takeCharacter_moves char) h
  | identify =>
    rw [exec_identify] at h
    exact dispatch_moves s (fun _ _ _ => .refl) h
  | linkStatus =>
    rw [exec_linkStatus] at h
    exact dispatch_moves s serveLinkStatus_moves h
  | linkConfig =>
    rw [exec_linkConfig] at h
    exact dispatch_moves s serveLinkConfig_moves h
  | sessionOpen =>
    rw [exec_sessionOpen] at h
    exact dispatch_moves s serveSessionOpen_moves h
  | sessionClose =>
    rw [exec_sessionClose] at h
    exact dispatch_moves s (fun _ _ _ => endSession_moves) h
  | ping =>
    rw [exec_ping] at h
    exact dispatch_moves s servePing_moves h
  | noticeAck =>
    rw [exec_noticeAck] at h
    exact dispatch_moves s serveNoticeAck_moves h
  | subscribe =>
    rw [exec_subscribe] at h
    exact dispatch_moves s serveSubscribe_moves h
  | channelConfig =>
    rw [exec_channelConfig] at h
    exact dispatch_moves s serveChannelConfig_moves h
  | channelQuery =>
    rw [exec_channelQuery] at h
    exact dispatch_moves s (fun _ _ _ => .refl) h
  | channelOn =>
    rw [exec_channelOn] at h
    exact dispatch_moves s (fun _ c _ => requestOn_moves c .host) h
  | channelOff =>
    rw [exec_channelOff] at h
    exact dispatch_moves s (fun _ c _ => requestOff_moves c .host) h
  | channelCycle =>
    rw [exec_channelCycle] at h
    exact dispatch_moves s serveChannelCycle_moves h
  | channelClear =>
    rw [exec_channelClear] at h
    exact dispatch_moves s (fun _ c _ => requestClear_moves c) h
  | budgetConfig =>
    rw [exec_budgetConfig] at h
    exact dispatch_moves s serveBudgetConfig_moves h
  | budgetQuery =>
    rw [exec_budgetQuery] at h
    exact dispatch_moves s (fun _ _ _ => .refl) h
  | measureRead =>
    rw [exec_measureRead] at h
    exact dispatch_moves s (fun _ _ _ => .refl) h
  | energyRead =>
    rw [exec_energyRead] at h
    exact dispatch_moves s serveEnergyRead_moves h
  | peakRead =>
    rw [exec_peakRead] at h
    exact dispatch_moves s servePeakRead_moves h
  | watchSet =>
    rw [exec_watchSet] at h
    exact dispatch_moves s serveWatchSet_moves h
  | watchDelete =>
    rw [exec_watchDelete] at h
    exact dispatch_moves s serveWatchDelete_moves h
  | watchClear =>
    rw [exec_watchClear] at h
    exact dispatch_moves s serveWatchClear_moves h
  | watchQuery =>
    rw [exec_watchQuery] at h
    exact dispatch_moves s (fun _ _ _ => .refl) h
  | schedAdd =>
    rw [exec_schedAdd] at h
    exact dispatch_moves s serveSchedAdd_moves h
  | schedCancel =>
    rw [exec_schedCancel] at h
    exact dispatch_moves s serveSchedCancel_moves h
  | schedList =>
    rw [exec_schedList] at h
    exact dispatch_moves s (fun _ _ _ => .refl) h
  | profileSave =>
    rw [exec_profileSave] at h
    exact dispatch_moves s serveProfileSave_moves h
  | profileQuery =>
    rw [exec_profileQuery] at h
    exact dispatch_moves s (fun _ _ _ => .refl) h
  | restart =>
    rw [exec_restart] at h
    exact dispatch_moves s serveRestart_moves h

/-- Every command has a next state. -/
theorem exec_next (i : Instr) (s : State) : ∃ t, exec i s = .next t := by
  cases i <;> exact ⟨_, rfl⟩

end Sys2Proof.Machine
end

section
/-! Proofs: the channels stay sound (R3, R4, R14). One lemma for each change of a channel record, then one case for each move. -/

namespace Sys2Proof.Machine

namespace Channel.Sound
variable {k m : Channel}

/-! The channel records that the moves leave. -/

theorem sameCourse (h : k.Sound) (hm : k.SameCourse m) : m.Sound := by
  obtain ⟨heq, harm, hrun⟩ := hm
  obtain ⟨h1, h2, h3, h4, h5, h6, h7, h8⟩ := h
  rw [heq]
  exact ⟨h1, fun ha => h2 (harm ha), hrun h3, h4, h5, h6, h7, h8⟩

/-- Power, timer and cycle are ended (R5). -/
theorem quiesce (h : k.Sound) {entered : ChState} (he : entered = .off ∨ entered = .latched) (reason : OffReason) :
    ({ k.quiesce with state := entered, lastOff := reason } : Channel).Sound := by
  obtain ⟨-, -, -, -, -, -, h7, h8⟩ := h
  rcases he with rfl | rfl <;>
    exact ⟨rfl, fun h => absurd h (by simp [Channel.quiesce, Comparator.disarm]),
      fun h => absurd h (by simp [Channel.quiesce, Comparator.disarm]), fun h => absurd h (by simp [Channel.quiesce]), rfl,
      fun h => absurd h (by simp [Channel.quiesce]), h7, h8⟩

theorem joined (h : k.Sound) (hs : k.state = .off) (number : Nat) :
    ({ k with state := .queued, joinNumber := number } : Channel).Sound := by
  obtain ⟨h1, h2, h3, h4, h5, h6, h7, h8⟩ := h
  simp only [hs] at h1 h2 h4 h5 h6
  exact ⟨h1, fun h => absurd (h2 h) (by simp), h3, fun h => absurd (h4 h) (by simp), h5, fun h => absurd (h6 h) (by simp), h7, h8⟩

theorem faulted (h : k.Sound) (reason : OffReason) (expiry : Nat) :
    ({ k.quiesce with
        state := if k.retryCount < k.cfg.retryLimit then .cooldown else .latched
        lastOff := reason
        tripTotal := satAdd 65535 k.tripTotal 1
        retryCount := if k.retryCount < k.cfg.retryLimit then k.retryCount + 1 else k.retryCount
        timer := if k.retryCount < k.cfg.retryLimit then .cooldown expiry else .none } : Channel).Sound := by
  obtain ⟨-, -, -, -, -, -, h7, -⟩ := h
  have htotal : satAdd 65535 k.tripTotal 1 ≤ 65535 := Nat.min_le_left ..
  by_cases hr : k.retryCount < k.cfg.retryLimit
  · simp [Channel.Sound, Channel.quiesce, Comparator.disarm, hr, htotal]
  · simp [Channel.Sound, Channel.quiesce, Comparator.disarm, hr, htotal, h7]

theorem cycleOff (h : k.Sound) (hs : k.state = .on) (expiry : Nat) :
    ({ k with state := .cycleOff, gate := .off, comparator := k.comparator.disarm, cyclePending := none
              timer := .cycle expiry } : Channel).Sound := by
  obtain ⟨-, -, -, -, -, h6, h7, h8⟩ := h
  have hw : k.cycleReturnWaiting = false := by
    by_contra hw
    simpa [hs] using h6 (by simpa using hw)
  simp [Channel.Sound, Comparator.disarm, hw, h7, h8]

theorem pendCycle (h : k.Sound) (hs : k.state = .on) (request : Nat) :
    ({ k with cyclePending := some request } : Channel).Sound := by
  obtain ⟨h1, h2, h3, -, h5, h6, h7, h8⟩ := h
  exact ⟨h1, h2, h3, fun _ => hs, h5, h6, h7, h8⟩

theorem clear (h : k.Sound) (hs : k.state = .latched) : ({ k with state := .off, retryCount := 0 } : Channel).Sound := by
  obtain ⟨h1, h2, h3, h4, h5, h6, -, h8⟩ := h
  simp only [hs] at h1 h2 h4 h5 h6
  exact ⟨h1, fun h => absurd (h2 h) (by simp), h3, fun h => absurd (h4 h) (by simp), h5, fun h => absurd (h6 h) (by simp),
    Nat.zero_le _, h8⟩

theorem starting (h : k.Sound) (hs : k.state = .queued ∨ k.state = .cycleOff) (stamp expiry : Nat) :
    ({ k with state := .starting, gate := .regulating, grantStamp := stamp, cycleReturnWaiting := false
              timer := .start expiry } : Channel).Sound := by
  obtain ⟨-, h2, h3, h4, -, -, h7, h8⟩ := h
  have hon : k.state ≠ .on := by rcases hs with hs | hs <;> simp [hs]
  exact ⟨rfl, fun h => absurd (h2 h) hon, h3, fun h => absurd (h4 h) hon, ⟨_, rfl⟩, by simp, h7, h8⟩

theorem on (h : k.Sound) (stamp expiry : Nat) :
    ({ k with state := .on, gate := .full, comparator := k.comparator.arm k.cfg, onSince := stamp, cyclePending := none
              cycleReturnWaiting := false, timer := .retryWindow expiry } : Channel).Sound := by
  obtain ⟨-, -, -, -, -, -, h7, h8⟩ := h
  simp [Channel.Sound, Comparator.arm, h7, h8]

theorem retryWindow (h : k.Sound) (hs : k.state = .on) : ({ k with retryCount := 0, timer := .none } : Channel).Sound := by
  obtain ⟨h1, h2, h3, h4, -, h6, -, h8⟩ := h
  exact ⟨h1, h2, h3, h4, by simp [hs], h6, Nat.zero_le _, h8⟩

theorem claim (h : k.Sound) (hs : k.state = .cycleOff) (number : Nat) :
    ({ k with cycleReturnWaiting := true, timer := .none, claimNumber := number } : Channel).Sound := by
  obtain ⟨h1, h2, h3, h4, -, -, h7, h8⟩ := h
  exact ⟨h1, h2, h3, h4, by simp [hs], fun _ => hs, h7, h8⟩

/-- The cooldown is over, for QUEUED or OFF (R63). -/
theorem cooldownEnded (h : k.Sound) (hs : k.state = .cooldown) {entered : ChState} (he : entered = .queued ∨ entered = .off)
    (number : Nat) (reason : OffReason) :
    ({ k with timer := .none, state := entered, joinNumber := number, lastOff := reason } : Channel).Sound := by
  obtain ⟨h1, h2, h3, h4, -, h6, h7, h8⟩ := h
  simp only [hs] at h1 h2 h4 h6
  rcases he with rfl | rfl <;>
    exact ⟨h1, fun h => absurd (h2 h) (by simp), h3, fun h => absurd (h4 h) (by simp), rfl, fun h => absurd (h6 h) (by simp), h7, h8⟩

theorem configure (h : k.Sound) (hs : ChState.configurable k.state = true) (cfg : ChannelConfig) : (k.configure cfg).Sound := by
  obtain ⟨h1, h2, h3, h4, h5, h6, -, h8⟩ := h
  have hretry : (k.configure cfg).retryCount ≤ cfg.retryLimit := by
    unfold Channel.configure
    dsimp only
    split <;> omega
  have hidle (x : ChState) (hx : x = .disabled ∨ x = .off ∨ x = .latched) (hk : k.gate = .off) (ht : k.timer = .none)
      (ha : k.comparator.armed = false) (hp : k.cyclePending = none) (hw : k.cycleReturnWaiting = false)
      (he : (k.configure cfg).state = x) : (k.configure cfg).Sound := by
    rcases hx with rfl | rfl | rfl <;>
      exact ⟨by rw [he]; exact hk, fun h => absurd (ha.symm.trans h) (by simp), h3, fun h => by simp [Channel.configure, hp] at h,
        by rw [he]; exact ht, fun h => absurd (hw.symm.trans h) (by simp), hretry, h8⟩
  have hdest : (k.configure cfg).state = .disabled ∨ (k.configure cfg).state = .off ∨ (k.configure cfg).state = .latched := by
    cases he : cfg.enabled <;> cases hk : k.state <;> simp_all [Channel.configure, configuredState, ChState.configurable]
  refine hidle _ hdest ?_ ?_ ?_ ?_ ?_ rfl <;> cases hk : k.state <;> simp_all [ChState.configurable]

theorem atPowerOn (cfg : ChannelConfig) : (Channel.atPowerOn cfg).Sound := by
  cases he : cfg.enabled <;> simp [Channel.Sound, Channel.atPowerOn, Channel.reset, Comparator.blank, he]

theorem atRestart (h : k.Sound) (cfg : ChannelConfig) : (k.atRestart cfg).Sound := by
  obtain ⟨-, -, -, -, -, -, -, h8⟩ := h
  cases he : cfg.enabled <;> cases hk : k.state <;>
    simp [Channel.Sound, Channel.atRestart, restartState, Comparator.arm, Comparator.disarm, he, hk, h8]

end Channel.Sound

/-! Every move. -/

theorem ChannelsSound.of_same {s t : State} (h : ChannelsSound s) (hc : ∀ c, t.chan c = s.chan c) : ChannelsSound t :=
  fun c => (hc c).symm ▸ h c

/-- One channel has changed, and is sound. -/
theorem ChannelsSound.of_one {s t : State} {c : Chan} (h : ChannelsSound s) (hc : (t.chan c).Sound)
    (hd : ∀ d, d ≠ c → t.chan d = s.chan d) : ChannelsSound t := by
  intro d
  by_cases hdc : d = c
  · exact hdc ▸ hc
  · exact (hd d hdc).symm ▸ h d

theorem ChannelsSound.onChan {s : State} (h : ChannelsSound s) {c : Chan} {f : Channel → Channel} (hf : (f (s.chan c)).Sound) :
    ChannelsSound (s.onChan c f) :=
  h.of_one (c := c) (by rwa [State.onChan_chan_self]) fun _ hd => State.onChan_chan_ne _ _ hd

/-- What the end of a cooldown leaves of the channel (R63). -/
theorem State.cooldownEnded_chan (s : State) (c : Chan) :
    (s.cooldownEnded c).chan c =
      { s.chan c with
        timer := .none
        state := if (s.chan c).cfg.allowance ≤ s.budget.settings.limit then .queued else .off
        joinNumber := if (s.chan c).cfg.allowance ≤ s.budget.settings.limit then s.budget.nextJoin else (s.chan c).joinNumber
        lastOff := if (s.chan c).cfg.allowance ≤ s.budget.settings.limit then (s.chan c).lastOff else .budget } := by
  unfold State.cooldownEnded
  dsimp only
  split
  · simp only [State.postChange, State.post_chan, (State.joinQueue_spec _ c _).1, State.onChan_chan_self, State.onChan_budget]
  · simp only [State.postChange, State.post_chan, State.onChan_chan_self]

theorem State.cooldownEnded_chan_ne (s : State) {c d : Chan} (h : d ≠ c) : (s.cooldownEnded c).chan d = s.chan d := by
  unfold State.cooldownEnded
  dsimp only
  split
  · simp only [State.postChange, State.post_chan, (State.joinQueue_spec _ c _).2.2 d h, State.onChan_chan_ne _ _ h]
  · simp only [State.postChange, State.post_chan, State.onChan_chan_ne _ _ h]

theorem move_keeps_channelsSound {i : Instr} (s t : State) (m : Move i s t) (h : ChannelsSound s) : ChannelsSound t := by
  cases m with
  | frame hf => exact h.of_same fun c => hf (.chan c) (by simp)
  | schedule | link | notices | budget | scan | settings => exact h
  | chan c f hk => exact h.onChan ((h c).sameCourse hk)
  | leave c entered reason he => exact h.onChan ((h c).quiesce he reason)
  | fault c reason =>
    refine h.of_one (c := c) ?_ fun d hd => s.faulted_only c reason (.chan d) (by simpa using hd)
    rw [(s.faulted_spec c reason).2]
    exact (h c).faulted reason _
  | join c origin hs => exact h.onChan ((h c).joined hs _)
  | cycleOff c hs => exact h.onChan ((h c).cycleOff hs _)
  | pendCycle c request hs => exact h.onChan ((h c).pendCycle hs request)
  | clear c _ hs => exact h.onChan ((h c).clear hs)
  | starting c cause hs => exact h.onChan ((h c).starting (hs.imp_right And.left) _ _)
  | on c => exact h.onChan ((h c).on _ _)
  | retryWindow c hs => exact h.onChan ((h c).retryWindow hs)
  | claim c expiry hs => exact h.onChan ((h c).claim hs _)
  | cooldown c hs =>
    refine h.of_one (c := c) ?_ fun d hd => s.cooldownEnded_chan_ne hd
    rw [s.cooldownEnded_chan]
    refine (h c).cooldownEnded hs ?_ _ _
    split <;> simp
  | configure c cfg _ hs => exact h.onChan ((h c).configure hs cfg)
  | powerLost => exact fun c => by cases c <;> exact Channel.Sound.atPowerOn Config.factoryChannel
  | powerOn => exact fun c => by rw [atPowerOn_chan]; exact .atPowerOn _
  | restart => exact fun c => by rw [atRestart_chan]; exact (h c).atRestart _

/-! Steps. -/

/-- A step is a command on the queue's rest, or the passing of time, which changes the time base, the Sampler's round and the queue
of commands only (log 2). -/
theorem step_cases {s t : State} (h : step s = .next t) :
    (∃ i rest, s.pending = i :: rest ∧ Moves i { s with pending := rest } t)
    ∨ OnlyChanges [.uptime, .within, .sampler, .pending] s t := by
  unfold step at h
  split at h
  · right
    cases h
    unfold State.passTime State.boundary State.afterBoundary
    repeat' split
    all_goals
      intro p hp
      cases p <;> first | rfl | simp at hp
  · next i rest hp => exact .inl ⟨i, rest, hp, exec_moves h⟩

/-- A property that every move keeps, and that speaks of neither time, Sampler nor the queue of commands, is kept by every step. -/
theorem step_keeps {P : State → Prop} (hmove : ∀ i s t, Move i s t → P s → P t)
    (htime : ∀ s t, OnlyChanges [.uptime, .within, .sampler, .pending] s t → P s → P t) {s t : State}
    (h : step s = .next t) (hs : P s) : P t := by
  rcases step_cases h with ⟨i, rest, -, m⟩ | hf
  · refine m.keeps (hmove i) (htime s _ (fun p hp => ?_) hs)
    cases p <;> first | rfl | simp at hp
  · exact htime s t hf hs

/-- Settles O6: a step is a chain of moves, and every move keeps the channels sound. -/
theorem stepKeepsChannelsSound : Obligations.StepKeepsChannelsSound := fun _ _ hs h =>
  step_keeps (fun _ => move_keeps_channelsSound) (fun _ _ hf h => h.of_same fun c => hf (.chan c) (by simp)) h hs

end Sys2Proof.Machine
end

section
/-! Proofs: the schedule list, the queues of the link, and the notices keep their properties at every step, each by what one move may do
to that part of the state. -/

namespace Sys2Proof.Machine
variable {i : Instr} {s t : State}

/-! What a move may do to one part. -/

theorem State.cooldownEnded_only (s : State) (c : Chan) : OnlyChanges [.chan c, .budget, .notices] s (s.cooldownEnded c) := by
  have hoff (k : Channel → Channel) (j : Channel → Channel) :
      OnlyChanges [.chan c] s ((s.onChan c k).onChan c j) := (s.onChan_only c k).trans (State.onChan_only _ c j)
  unfold State.cooldownEnded
  dsimp only
  split
  · exact (((s.onChan_only c _).append (State.joinQueue_only _ c _)).append (State.postChange_only _ c _ _)).mono (by simp)
  · exact ((hoff _ _).append (State.postChange_only _ c _ _)).mono (by simp)

theorem move_schedule (m : Move i s t) : SchedMove s.schedule t.schedule := by
  have same (h : t.schedule = s.schedule) : SchedMove s.schedule t.schedule := h ▸ .leave _ _ (.refl _)
  cases m with
  | schedule l h => exact h
  | frame h => exact same (h .schedule (by simp))
  | fault c reason => exact same (s.faulted_only c reason .schedule (by simp))
  | cooldown c => exact same (s.cooldownEnded_only c .schedule (by simp))
  | powerLost | powerOn | restart => exact .leave _ _ (List.nil_sublist _)
  | _ => exact same rfl

theorem move_link (m : Move i s t) : s.link.Keeps t.link := by
  cases m with
  | link f h => exact h
  | frame h => exact (h .link (by simp)) ▸ id
  | fault c reason => exact (s.faulted_only c reason .link (by simp)) ▸ id
  | cooldown c => exact (s.cooldownEnded_only c .link (by simp)) ▸ id
  | powerLost => exact fun _ => ⟨Nat.zero_le _, Nat.zero_le _⟩
  | powerOn | restart => exact Link.atStart_keeps _ _ _ _
  | _ => exact id

theorem Notices.Keeps.refl (u : Notices) : u.Keeps u := ⟨id, id, id⟩

theorem Notices.powerLost_keeps (u : Notices) (s : State) : u.Keeps s.powerLost.notices :=
  ⟨fun _ => ⟨Nat.zero_le _, Nat.zero_le _⟩, fun _ => rfl, fun _ =>
    ⟨⟨[], [], ⟨rfl, by simp, by simp, by simp⟩, fun _ _ => .inr rfl, fun _ => rfl⟩, Nat.zero_le _, fun _ => rfl,
      fun _ => ⟨rfl, rfl, rfl, rfl⟩⟩⟩

theorem State.cooldownEnded_notices_keeps (s : State) (c : Chan) : s.notices.Keeps (s.cooldownEnded c).notices := by
  unfold State.cooldownEnded
  dsimp only
  split <;> exact Notices.post_keeps _ _ _ _

theorem move_notices (m : Move i s t) : s.notices.Keeps t.notices := by
  cases m with
  | notices f h => exact h
  | frame h => exact (h .notices (by simp)) ▸ .refl _
  | fault c reason => exact (s.faulted_only c reason .notices (by simp)) ▸ .refl _
  | starting c cause => exact Notices.post_keeps _ _ _ _
  | on c => exact Notices.post_keeps _ _ _ _
  | cooldown c => exact s.cooldownEnded_notices_keeps c
  | powerLost => exact Notices.powerLost_keeps _ s
  | powerOn | restart => exact Notices.atStart_keeps _ s.notices _
  | _ => exact .refl _

/-! The obligations. -/

/-- Settles O9: every move fires the head of the list, places an accepted entry, or takes entries out. -/
theorem stepKeepsScheduleSound : Obligations.StepKeepsScheduleSound := fun _ _ hs h =>
  step_keeps (fun _ _ _ m h => (move_schedule m).sound h)
    (fun s t hf h => by rwa [show t.schedule = s.schedule from hf .schedule (by simp)]) h hs

/-- Settles O10: every move keeps the sizes of the link's queues and of the notice queue. -/
theorem stepKeepsQueuesBounded : Obligations.StepKeepsQueuesBounded := fun _ _ hs h =>
  step_keeps (fun _ s t m h => by
      rw [queuesBounded_iff] at h ⊢
      exact ⟨move_link m h.1, (move_notices m).bounded h.2⟩)
    (fun s t hf h => by
      rw [queuesBounded_iff] at h ⊢
      rwa [show t.link = s.link from hf .link (by simp), show t.notices = s.notices from hf .notices (by simp)]) h hs

/-- Settles O11: every move that changes the notice queue's contents sets ATTN from them. -/
theorem stepKeepsAttn : Obligations.StepKeepsAttn := fun _ _ hs h =>
  step_keeps (fun _ s t m h => by
      rw [attnAgrees_iff] at h ⊢
      exact (move_notices m).attn h)
    (fun s t hf h => by
      rw [attnAgrees_iff] at h ⊢
      rwa [show t.notices = s.notices from hf .notices (by simp)]) h hs

/-- Settles O12: every move leaves the queue split into the window and what is UNSENT, and fills the window. -/
theorem stepKeepsDeliverySound : Obligations.StepKeepsDeliverySound := fun _ _ hs h =>
  step_keeps (fun _ s t m h => by
      rw [deliverySound_iff] at h ⊢
      exact (move_notices m).delivers h)
    (fun s t hf h => by
      rw [deliverySound_iff] at h ⊢
      rwa [show t.notices = s.notices from hf .notices (by simp)]) h hs

end Sys2Proof.Machine
end

section
/-! Proofs: the grant scan and shed rank. What one walk grants and passes, the scan as a recursion over its grants (R33 to R35), and
which candidate shed rank chooses (R39). -/

namespace Sys2Proof.Machine

/-! One walk (R35). -/

/-- What a walk makes of an entry it passes: one skipped for the SHED level stays, one without headroom gains 1. -/
def passedEntry (shed : Level) (x : Waiting) : Waiting :=
  if shed = .asserted ∧ 1 ≤ x.cls then x else { x with bypass := x.bypass + 1 }

/-- A walk that grants: the entries before the one granted were passed, each for its reason. -/
theorem walkQueue_some_iff (shed : Level) (headroom limit : Nat) (queue rest : List Waiting) (e : Waiting) :
    walkQueue shed headroom limit queue = some (e, rest) ↔
      ∃ passed behind, queue = passed ++ e :: behind ∧ rest = passed.map (passedEntry shed) ++ behind
        ∧ (∀ x ∈ passed, (shed = .asserted ∧ 1 ≤ x.cls) ∨ (headroom < x.allowance ∧ x.bypass < limit))
        ∧ ¬(shed = .asserted ∧ 1 ≤ e.cls) ∧ e.allowance ≤ headroom := by
  induction queue generalizing rest with
  | nil => simp [walkQueue]
  | cons x xs ih =>
    have pass (hx : (shed = .asserted ∧ 1 ≤ x.cls) ∨ (headroom < x.allowance ∧ x.bypass < limit)) :
        (walkQueue shed headroom limit xs).map (fun y => (y.1, passedEntry shed x :: y.2)) = some (e, rest) ↔
          ∃ passed behind, x :: xs = passed ++ e :: behind ∧ rest = passed.map (passedEntry shed) ++ behind
            ∧ (∀ x ∈ passed, (shed = .asserted ∧ 1 ≤ x.cls) ∨ (headroom < x.allowance ∧ x.bypass < limit))
            ∧ ¬(shed = .asserted ∧ 1 ≤ e.cls) ∧ e.allowance ≤ headroom := by
      rw [Option.map_eq_some_iff]
      constructor
      · rintro ⟨⟨e', rest'⟩, hw, heq⟩
        cases heq
        obtain ⟨passed, behind, rfl, rfl, hp, he⟩ := (ih rest').1 hw
        exact ⟨x :: passed, behind, rfl, rfl, by simpa using ⟨hx, hp⟩, he⟩
      · rintro ⟨passed, behind, hq, rfl, hp, he, hfit⟩
        cases passed with
        | nil =>
          obtain ⟨rfl, rfl⟩ := List.cons.inj hq
          rcases hx with hx | ⟨hx, -⟩
          · exact absurd hx he
          · omega
        | cons y passed =>
          obtain ⟨rfl, rfl⟩ := List.cons.inj hq
          exact ⟨(e, passed.map (passedEntry shed) ++ behind),
            (ih _).2 ⟨passed, behind, rfl, rfl, fun z hz => hp z (List.mem_cons_of_mem _ hz), he, hfit⟩, rfl⟩
    unfold walkQueue
    split
    · next hs => rw [← pass (.inl hs), passedEntry, if_pos hs]
    · next hs =>
      split
      · next hf =>
        constructor
        · rintro ⟨⟩
          exact ⟨[], xs, rfl, rfl, by simp, hs, hf⟩
        · rintro ⟨passed, behind, hq, rfl, hp, -⟩
          cases passed with
          | nil =>
            obtain ⟨rfl, rfl⟩ := List.cons.inj hq
            rfl
          | cons y passed =>
            obtain ⟨rfl, rfl⟩ := List.cons.inj hq
            rcases hp x (by simp) with h | ⟨h, -⟩
            · exact absurd h hs
            · omega
      · next hf =>
        split
        · next hb => rw [← pass (.inr ⟨by omega, hb⟩), passedEntry, if_neg hs]
        · next hb =>
          refine iff_of_false (by simp) ?_
          rintro ⟨passed, behind, hq, -, hp, -, hfit⟩
          cases passed with
          | nil =>
            obtain ⟨rfl, -⟩ := List.cons.inj hq
            exact hf hfit
          | cons y passed =>
            obtain ⟨rfl, -⟩ := List.cons.inj hq
            rcases hp x (by simp) with h | ⟨-, h⟩
            · exact hs h
            · exact hb h

/-! The scan as a recursion over its grants. -/

variable (b : Budget) (now : Nat)

/-- The walk that a scan of these holdings makes. -/
abbrev Budget.walk : Option (Waiting × List Waiting) := walkQueue b.shedLevel b.headroom b.settings.bypassLimit b.queue

theorem Budget.serveClaims_full (l : List Claim) (h : b.settings.slots ≤ b.slotsInUse) : Budget.serveClaims now l b = b := by
  cases l with
  | nil => rfl
  | cons x rest => rw [Budget.serveClaims, if_neg (by omega)]

theorem Budget.walks_full (n : Nat) (h : b.settings.slots ≤ b.slotsInUse) : Budget.walks now n b = b := by
  cases n with
  | zero => rfl
  | succ n => rw [Budget.walks, if_neg (by omega)]

theorem Budget.walks_none (n : Nat) (h : b.walk = none) : Budget.walks now n b = b := by
  cases n with
  | zero => rfl
  | succ n =>
    rw [Budget.walks]
    split
    · simp only [show walkQueue _ _ _ _ = none from h]
    · rfl

theorem Budget.scan_good (h : b.busGood = true) :
    b.scan now = Budget.walks now (Budget.serveClaims now b.claims b).queue.length (Budget.serveClaims now b.claims b) := by
  rw [Budget.scan, if_pos h]

theorem Budget.scan_of_not_good_or_full (h : b.busGood = false ∨ b.settings.slots ≤ b.slotsInUse) : b.scan now = b := by
  rcases h with h | h
  · simp [Budget.scan, h]
  · unfold Budget.scan
    split
    · simp only [b.serveClaims_full now _ h, b.walks_full now _ h]
    · rfl

/-- The first claim is granted, and the scan goes on (R34). -/
theorem Budget.scan_claim {x : Claim} {rest : List Claim} (hg : b.busGood = true) (hs : b.slotsInUse < b.settings.slots)
    (hc : b.claims = x :: rest) : b.scan now = (b.grantClaim now x rest).scan now := by
  have hserve : Budget.serveClaims now b.claims b
      = Budget.serveClaims now (b.grantClaim now x rest).claims (b.grantClaim now x rest) := by
    rw [hc, Budget.serveClaims, if_pos hs]
    rfl
  rw [b.scan_good now hg, Budget.scan_good _ now (show (b.grantClaim now x rest).busGood = true from hg), hserve]

/-- With no claim left the entry that a walk gives is granted, and the next walk starts at the head again (R35). -/
theorem Budget.scan_entry {e : Waiting} {rest : List Waiting} (hg : b.busGood = true) (hs : b.slotsInUse < b.settings.slots)
    (hc : b.claims = []) (hw : b.walk = some (e, rest)) : b.scan now = (b.grantEntry now e rest).scan now := by
  have hlen : b.queue.length = rest.length + 1 := (walkQueue_some hw).2.2.symm
  have hc' : (b.grantEntry now e rest).claims = [] := hc
  rw [b.scan_good now hg, Budget.scan_good _ now (show (b.grantEntry now e rest).busGood = true from hg), hc, hc']
  simp only [Budget.serveClaims, hlen, Budget.walks, hs, if_true, hw]
  rfl

theorem Budget.scan_ends (hc : b.claims = []) (hw : b.walk = none) : b.scan now = b := by
  by_cases hg : b.busGood = true
  · rw [b.scan_good now hg, hc, Budget.serveClaims, b.walks_none now _ hw]
  · exact b.scan_of_not_good_or_full now (.inl (by simpa using hg))

/-- What grants keep, a scan keeps. -/
theorem Budget.runScan_keeps {P : Budget → Prop} {b : Budget} {now : Nat}
    (hclaim : ∀ b x rest, b.claims = x :: rest → b.slotsInUse < b.settings.slots → P b → P (b.grantClaim now x rest))
    (hentry : ∀ b e rest, b.walk = some (e, rest) → b.slotsInUse < b.settings.slots → P b → P (b.grantEntry now e rest))
    (hdue : ∀ b, P b → P { b with scanDue := false }) (h : P b) : P (b.runScan now) := by
  have hserve (l : List Claim) : ∀ b : Budget, b.claims = l → P b → P (Budget.serveClaims now l b) := by
    induction l with
    | nil => exact fun b _ h => h
    | cons x rest ih =>
      intro b hb h
      unfold Budget.serveClaims
      split
      · exact ih _ rfl (hclaim b x rest hb ‹_› h)
      · exact h
  have hwalks (n : Nat) : ∀ b : Budget, P b → P (Budget.walks now n b) := by
    induction n with
    | zero => exact fun b h => h
    | succ n ih =>
      intro b h
      unfold Budget.walks
      split
      · split
        · exact ih _ (hentry b _ _ ‹_› ‹_› h)
        · exact h
      · exact h
  unfold Budget.runScan Budget.scan
  split
  · refine hdue _ ?_
    split
    · exact hwalks _ _ (hserve _ _ rfl h)
    · exact h
  · exact h

/-- Settles O17: `walkQueue_some_iff`, and the scan's recursion equations. -/
theorem walkGrantsFirstThatFits : Obligations.WalkGrantsFirstThatFits := by
  refine ⟨fun shed headroom limit queue rest e => walkQueue_some_iff shed headroom limit queue rest e, fun b now => ?_⟩
  refine ⟨fun h => ?_, fun h => ?_, b.scan_of_not_good_or_full now, fun x rest hg hs hc => b.scan_claim now hg hs hc,
    fun e rest hg hs hc hw => b.scan_entry now hg hs hc hw, b.scan_ends now⟩
  · rw [Budget.runScan, h]
    rfl
  · rw [Budget.runScan, h]
    rfl

/-! Shed rank (R39). -/

/-- Another held record stands behind a chosen one: a lower class, or in its class an earlier stamp, or with the same stamp a lower
channel number. -/
def RanksBehind (d : Chan) (q : Reservation) (c : Chan) (r : Reservation) : Prop :=
  q.cls < r.cls ∨ (q.cls = r.cls ∧ q.grantStamp < r.grantStamp)
    ∨ (q.cls = r.cls ∧ q.grantStamp = r.grantStamp ∧ d.toNat < c.toNat)

theorem RanksBehind.trans {a c d : Chan} {p q r : Reservation} (h : RanksBehind a p c q) (k : RanksBehind c q d r) :
    RanksBehind a p d r := by
  unfold RanksBehind at *
  omega

/-- The first in rank of channels taken in ascending number after `best`: the best so far, or a candidate among them, and every
other candidate and the best so far stand behind it. -/
theorem rankFrom_first {records : PerChan (Option Reservation)} {p : Reservation → Bool} {cs : List Chan}
    (hcs : cs.Pairwise fun a b => a.toNat < b.toNat) {best : Option (Chan × Reservation)}
    (hbest : ∀ x ∈ best, ∀ d ∈ cs, x.1.toNat < d.toNat) {c : Chan} {r : Reservation}
    (h : rankFrom records p cs best = some (c, r)) :
    (∀ x ∈ best, x = (c, r) ∨ RanksBehind x.1 x.2 c r)
    ∧ ∀ d ∈ cs, ∀ q, records.get d = some q → p q = true → d ≠ c → RanksBehind d q c r := by
  induction cs generalizing best with
  | nil =>
    cases h
    simp
  | cons d rest ih =>
    obtain ⟨hd, hrest⟩ := List.pairwise_cons.1 hcs
    have hbrest : ∀ x ∈ best, ∀ e ∈ rest, x.1.toNat < e.toNat := fun x hx e he => hbest x hx e (List.mem_cons_of_mem _ he)
    have skip (hp : ∀ q, records.get d = some q → p q ≠ true) (h : rankFrom records p rest best = some (c, r)) :
        (∀ x ∈ best, x = (c, r) ∨ RanksBehind x.1 x.2 c r)
        ∧ ∀ e ∈ d :: rest, ∀ q, records.get e = some q → p q = true → e ≠ c → RanksBehind e q c r := by
      obtain ⟨i1, i2⟩ := ih hrest hbrest h
      refine ⟨i1, fun e he q hq hpq hne => ?_⟩
      rcases List.mem_cons.1 he with rfl | he
      · exact absurd hpq (hp q hq)
      · exact i2 e he q hq hpq hne
    /- The record of `d` becomes the best so far. -/
    have take {q : Reservation} (hq : records.get d = some q) (h : rankFrom records p rest (some (d, q)) = some (c, r))
        (hb : ∀ x ∈ best, RanksBehind x.1 x.2 d q) :
        (∀ x ∈ best, x = (c, r) ∨ RanksBehind x.1 x.2 c r)
        ∧ ∀ e ∈ d :: rest, ∀ q, records.get e = some q → p q = true → e ≠ c → RanksBehind e q c r := by
      obtain ⟨i1, i2⟩ := ih hrest (by simpa using hd) h
      have hdq := i1 (d, q) rfl
      refine ⟨fun x hx => .inr ?_, fun e he q' hq' hpq hne => ?_⟩
      · rcases hdq with hdq | hdq
        · cases hdq
          exact hb x hx
        · exact (hb x hx).trans hdq
      · rcases List.mem_cons.1 he with rfl | he
        · obtain rfl : q = q' := Option.some.inj (hq.symm.trans hq')
          rcases hdq with hdq | hdq
          · cases hdq
            exact absurd rfl hne
          · exact hdq
        · exact i2 e he q' hq' hpq hne
    unfold rankFrom at h
    split at h
    · next hn => exact skip (fun q hq => by rw [hn] at hq; cases hq) h
    · next q hq =>
      split at h
      · next hp =>
        split at h
        · exact take hq h (by simp)
        · next c' r' =>
          have hlt : c'.toNat < d.toNat := hbest (c', r') rfl d (by simp)
          split at h
          · next hr =>
            refine take hq h fun x hx => ?_
            cases hx
            show RanksBehind c' r' d q
            simp only [ranksBefore, decide_eq_true_eq] at hr
            unfold RanksBehind
            omega
          · next hr =>
            have hbehind : RanksBehind d q c' r' := by
              simp only [ranksBefore, decide_eq_true_eq] at hr
              unfold RanksBehind
              omega
            obtain ⟨i1, i2⟩ := ih hrest hbrest h
            refine ⟨i1, fun e he q' hq' hpq hne => ?_⟩
            rcases List.mem_cons.1 he with rfl | he
            · obtain rfl : q = q' := Option.some.inj (hq.symm.trans hq')
              rcases i1 (c', r') rfl with hb | hb
              · cases hb
                exact hbehind
              · exact hbehind.trans hb
            · exact i2 e he q' hq' hpq hne
      · next hp => exact skip (fun q' hq' => by rw [hq] at hq'; cases hq'; exact hp) h

/-- With no candidate none is chosen. -/
theorem rankFrom_none {records : PerChan (Option Reservation)} {p : Reservation → Bool} {cs : List Chan}
    {best : Option (Chan × Reservation)} (h : rankFrom records p cs best = none) :
    best = none ∧ ∀ d ∈ cs, ∀ q, records.get d = some q → p q = false := by
  induction cs generalizing best with
  | nil => exact ⟨h, by simp⟩
  | cons d rest ih =>
    unfold rankFrom at h
    split at h
    · next hn =>
      obtain ⟨i1, i2⟩ := ih h
      refine ⟨i1, fun e he q hq => ?_⟩
      rcases List.mem_cons.1 he with rfl | he
      · rw [hn] at hq
        cases hq
      · exact i2 e he q hq
    · next q hq =>
      split at h
      · split at h
        · exact absurd (ih h).1 (by simp)
        · have := (ih h).1
          split at this <;> cases this
      · next hp =>
        obtain ⟨i1, i2⟩ := ih h
        refine ⟨i1, fun e he q' hq' => ?_⟩
        rcases List.mem_cons.1 he with rfl | he
        · rw [hq] at hq'
          cases hq'
          simpa using hp
        · exact i2 e he q' hq'

theorem Chan.all_ascending : Chan.all.Pairwise fun a b => a.toNat < b.toNat := by decide

/-- Settles O18: the choice is a candidate by `Budget.firstInRank_some`, and first by `rankFrom_first`. -/
theorem shedRankFirst : Obligations.ShedRankFirst := by
  refine fun b candidate => ⟨fun c r h => ?_, fun h d q hq => (rankFrom_none h).2 d d.mem_all q hq⟩
  obtain ⟨hheld, hcand⟩ := b.firstInRank_some h
  exact ⟨hheld, hcand, fun d q hq hc hne => (rankFrom_first Chan.all_ascending (by simp) h).2 d d.mem_all q hq hc hne⟩

end Sys2Proof.Machine
end

section
/-! Proofs: the Budget Manager and the channels agree (the table of R4). What each operation of the Budget Manager leaves of one
channel's entries and claims, the table of R4 by the channel's state, then one case for each move. -/

namespace Sys2Proof.Machine

/-! One channel's entries and claims. -/

/-- The queue entries of a channel. -/
abbrev Budget.entriesOf (b : Budget) (c : Chan) : List Waiting := b.queue.filter fun e => e.chan == c

/-- The claims of a channel. -/
abbrev Budget.claimsOf (b : Budget) (c : Chan) : List Claim := b.claims.filter fun x => x.chan == c

/-- The Budget Manager agrees with the records of all channels. -/
def Budget.AgreesWith (b : Budget) (k : Chan → Channel) : Prop :=
  ∀ c, Agrees (k c) (b.records.get c) (b.entriesOf c) (b.claimsOf c)

theorem budgetAgrees_iff (s : State) : BudgetAgrees s ↔ s.budget.AgreesWith s.chan := .rfl

variable (b : Budget) {c d : Chan}

theorem Budget.drop_entriesOf_self : (b.drop c).entriesOf c = [] := by
  simp [Budget.entriesOf, Budget.drop]

theorem Budget.drop_claimsOf_self : (b.drop c).claimsOf c = [] := by
  simp [Budget.claimsOf, Budget.drop]

theorem Budget.drop_entriesOf_ne (h : d ≠ c) : (b.drop c).entriesOf d = b.entriesOf d := by
  rw [Budget.entriesOf, Budget.drop, List.filter_filter]
  refine List.filter_congr fun e _ => ?_
  by_cases he : e.chan = d
  · simp [he, h]
  · simp [he]

theorem Budget.drop_claimsOf_ne (h : d ≠ c) : (b.drop c).claimsOf d = b.claimsOf d := by
  rw [Budget.claimsOf, Budget.drop, List.filter_filter]
  refine List.filter_congr fun x _ => ?_
  by_cases hx : x.chan = d
  · simp [hx, h]
  · simp [hx]

theorem Budget.drop_record_ne (h : d ≠ c) : (b.drop c).records.get d = b.records.get d := PerChan.get_set_ne _ _ h

/-- A join puts one entry between two parts of the queue (R31). -/
theorem Budget.join_queue (now : Nat) (c : Chan) (cfg : ChannelConfig) (origin : Origin) :
    ∃ before behind, b.queue = before ++ behind
      ∧ (b.join now c cfg origin).queue = before
        ++ { chan := c, cls := cfg.cls, allowance := cfg.allowance, joinStamp := now, origin := origin, bypass := 0
             joinNumber := b.nextJoin } :: behind := by
  unfold Budget.join
  dsimp only
  split
  · exact ⟨_, _, (List.takeWhile_append_dropWhile (p := fun x : Waiting => decide (x.cls < cfg.cls))).symm, rfl⟩
  · exact ⟨_, _, (List.takeWhile_append_dropWhile (p := fun x : Waiting => decide (x.cls ≤ cfg.cls))).symm, rfl⟩

theorem Budget.join_entriesOf_ne (now : Nat) (cfg : ChannelConfig) (origin : Origin) (h : d ≠ c) :
    (b.join now c cfg origin).entriesOf d = b.entriesOf d := by
  obtain ⟨before, behind, h1, h2⟩ := b.join_queue now c cfg origin
  have hcd : (c == d) = false := by simpa using fun h' => h h'.symm
  simp [Budget.entriesOf, h1, h2, hcd]

theorem Budget.join_entriesOf_self (now : Nat) (cfg : ChannelConfig) (origin : Origin) (h : b.entriesOf c = []) :
    (b.join now c cfg origin).entriesOf c = [{ chan := c, cls := cfg.cls, allowance := cfg.allowance, joinStamp := now
                                               origin := origin, bypass := 0, joinNumber := b.nextJoin }] := by
  obtain ⟨before, behind, h1, h2⟩ := b.join_queue now c cfg origin
  rw [Budget.entriesOf, h1, List.filter_append, List.append_eq_nil_iff] at h
  simp only [Budget.entriesOf, h2, List.filter_append, h.1, List.nil_append, List.filter_cons, beq_self_eq_true, if_true, h.2]

theorem Budget.placeClaim_claimsOf_ne (expiry : Nat) (h : d ≠ c) : (b.placeClaim c expiry).claimsOf d = b.claimsOf d := by
  obtain ⟨before, behind, h1, h2, -⟩ := insertClaim_place { chan := c, expiry := expiry, number := b.nextClaim } b.claims
  have hcd : (c == d) = false := by simpa using fun h' => h h'.symm
  simp only [Budget.claimsOf, Budget.placeClaim, h2]
  rw [h1]
  simp [hcd]

theorem Budget.placeClaim_claimsOf_self (expiry : Nat) :
    ((b.placeClaim c expiry).claimsOf c).length = (b.claimsOf c).length + 1 := by
  obtain ⟨before, behind, h1, h2, -⟩ := insertClaim_place { chan := c, expiry := expiry, number := b.nextClaim } b.claims
  simp only [Budget.claimsOf, Budget.placeClaim, h2]
  rw [h1]
  simp only [List.filter_append, List.filter_cons, beq_self_eq_true, if_true, List.length_append, List.length_cons]
  omega

theorem Budget.onRecord_ne (f : Reservation → Reservation) (h : d ≠ c) : (b.onRecord c f).records.get d = b.records.get d :=
  PerChan.get_update_ne _ _ h

theorem Budget.onRecord_self (f : Reservation → Reservation) : (b.onRecord c f).records.get c = (b.records.get c).map f :=
  PerChan.get_update_self ..

/-! The table of R4 by the channel's state. -/

variable {k m : Channel} {r : Reservation} {record : Option Reservation} {entries : List Waiting} {claims : List Claim}

/-- A channel that holds nothing with the Budget Manager (R4). -/
def IdleState (x : ChState) : Prop := x = .disabled ∨ x = .off ∨ x = .cooldown ∨ x = .latched

/-- The record of a channel whose grant is in transit. -/
def Reservation.InTransit (r : Reservation) : Prop := r.phase = .starting ∧ r.slot = true ∧ r.grantTaken = false

/-- The table of R4, row by row: what the Budget Manager holds of a channel by its state. -/
def TableRow (k : Channel) (x : ChState) (record : Option Reservation) (entries : List Waiting) (claims : List Claim) : Prop :=
  match x with
  | .disabled | .off | .cooldown | .latched => record = none ∧ entries = [] ∧ claims = []
  | .queued =>
    claims = []
      ∧ ((record = none ∧ ∃ e, entries = [e] ∧ e.allowance = k.cfg.allowance ∧ e.cls = k.cfg.cls ∧ e.joinNumber = k.joinNumber)
        ∨ ∃ r, record = some r ∧ r.amount = k.cfg.allowance ∧ r.cls = k.cfg.cls ∧ r.InTransit ∧ entries = [])
  | .starting =>
    ∃ r, record = some r ∧ r.amount = k.cfg.allowance ∧ r.cls = k.cfg.cls
      ∧ r.phase = .starting ∧ r.slot = true ∧ r.grantTaken = true ∧ entries = [] ∧ claims = []
  | .on =>
    ∃ r, record = some r ∧ r.amount = k.cfg.allowance ∧ r.cls = k.cfg.cls
      ∧ r.phase = .on ∧ r.slot = false ∧ entries = [] ∧ claims = []
  | .cycleOff =>
    ∃ r, record = some r ∧ r.amount = k.cfg.allowance ∧ r.cls = k.cfg.cls ∧ entries = []
      ∧ ((r.phase = .cycleOff ∧ r.slot = false ∧ claims.length = if k.cycleReturnWaiting then 1 else 0)
        ∨ (r.InTransit ∧ k.cycleReturnWaiting = true ∧ claims = []))

theorem agrees_iff_tableRow : Agrees k record entries claims ↔ TableRow k k.state record entries claims := by
  unfold Agrees
  generalize k.state = x
  cases record with
  | none =>
    cases x with
    | queued =>
      simp only [TableRow, List.length_eq_one_iff]
      constructor
      · rintro ⟨-, h2, ⟨e, rfl⟩, h4⟩
        exact ⟨h4, .inl ⟨trivial, e, rfl, h2 e (by simp)⟩⟩
      · rintro ⟨h4, ⟨-, e, rfl, h2⟩ | ⟨r, hr, -⟩⟩
        · exact ⟨nofun, by simpa using h2, ⟨e, rfl⟩, h4⟩
        · cases hr
    | _ => simp +contextual [TableRow]
  | some r =>
    simp only [TableRow, Option.some.injEq, forall_eq', exists_eq_left', Reservation.InTransit, and_assoc]
    cases x <;> simp +contextual [and_comm, and_left_comm, and_assoc]

theorem agrees_idle (h : IdleState k.state) :
    Agrees k record entries claims ↔ record = none ∧ entries = [] ∧ claims = [] := by
  rw [agrees_iff_tableRow]
  rcases h with h | h | h | h <;> rw [h] <;> rfl

theorem agrees_starting (h : k.state = .starting) :
    Agrees k record entries claims ↔ ∃ r, record = some r ∧ r.amount = k.cfg.allowance ∧ r.cls = k.cfg.cls
      ∧ r.phase = .starting ∧ r.slot = true ∧ r.grantTaken = true ∧ entries = [] ∧ claims = [] := by
  rw [agrees_iff_tableRow, h]
  rfl

theorem agrees_on (h : k.state = .on) :
    Agrees k record entries claims ↔ ∃ r, record = some r ∧ r.amount = k.cfg.allowance ∧ r.cls = k.cfg.cls
      ∧ r.phase = .on ∧ r.slot = false ∧ entries = [] ∧ claims = [] := by
  rw [agrees_iff_tableRow, h]
  rfl

theorem agrees_cycleOff (h : k.state = .cycleOff) :
    Agrees k record entries claims ↔ ∃ r, record = some r ∧ r.amount = k.cfg.allowance ∧ r.cls = k.cfg.cls ∧ entries = []
      ∧ ((r.phase = .cycleOff ∧ r.slot = false ∧ claims.length = if k.cycleReturnWaiting then 1 else 0)
        ∨ (r.InTransit ∧ k.cycleReturnWaiting = true ∧ claims = [])) := by
  rw [agrees_iff_tableRow, h]
  rfl

theorem agrees_queued (h : k.state = .queued) :
    Agrees k record entries claims ↔ claims = []
      ∧ ((record = none ∧ ∃ e, entries = [e] ∧ e.allowance = k.cfg.allowance ∧ e.cls = k.cfg.cls ∧ e.joinNumber = k.joinNumber)
        ∨ ∃ r, record = some r ∧ r.amount = k.cfg.allowance ∧ r.cls = k.cfg.cls ∧ r.InTransit ∧ entries = []) := by
  rw [agrees_iff_tableRow, h]
  rfl

/-- An entry is that of a QUEUED channel that holds nothing else. -/
theorem Agrees.of_entry {e : Waiting} (h : Agrees k record entries claims) (he : e ∈ entries) :
    k.state = .queued ∧ record = none ∧ entries = [e] ∧ claims = []
      ∧ e.allowance = k.cfg.allowance ∧ e.cls = k.cfg.cls ∧ e.joinNumber = k.joinNumber := by
  have hne : entries ≠ [] := List.ne_nil_of_mem he
  cases hk : k.state with
  | queued =>
    obtain ⟨hc, ⟨hr, x, hx, hx'⟩ | ⟨r, -, -, -, -, hx⟩⟩ := (agrees_queued hk).1 h
    · subst hx
      obtain rfl := List.mem_singleton.1 he
      exact ⟨rfl, hr, rfl, hc, hx'⟩
    · exact absurd hx hne
  | starting =>
    obtain ⟨r, -, -, -, -, -, -, hx, -⟩ := (agrees_starting hk).1 h
    exact absurd hx hne
  | on =>
    obtain ⟨r, -, -, -, -, -, hx, -⟩ := (agrees_on hk).1 h
    exact absurd hx hne
  | cycleOff =>
    obtain ⟨r, -, -, -, hx, -⟩ := (agrees_cycleOff hk).1 h
    exact absurd hx hne
  | _ => exact absurd ((agrees_idle (by simp [IdleState, hk])).1 h).2.1 hne

/-- A claim is the one of a channel in CYCLE_OFF with cycle return waiting, whose record stands by. -/
theorem Agrees.of_claim {x : Claim} {rest : List Claim} (h : Agrees k record entries (x :: rest)) :
    k.state = .cycleOff ∧ k.cycleReturnWaiting = true ∧ rest = [] ∧ entries = []
      ∧ ∃ r, record = some r ∧ r.amount = k.cfg.allowance ∧ r.cls = k.cfg.cls := by
  cases hk : k.state with
  | cycleOff =>
    obtain ⟨r, hr, h1, h2, he, ⟨-, -, hl⟩ | ⟨-, -, hl⟩⟩ := (agrees_cycleOff hk).1 h
    · cases hw : k.cycleReturnWaiting
      · simp [hw] at hl
      · exact ⟨rfl, rfl, by simpa [hw] using hl, he, r, hr, h1, h2⟩
    · cases hl
  | queued => cases ((agrees_queued hk).1 h).1
  | starting =>
    obtain ⟨r, -, -, -, -, -, -, -, hx⟩ := (agrees_starting hk).1 h
    cases hx
  | on =>
    obtain ⟨r, -, -, -, -, -, -, hx⟩ := (agrees_on hk).1 h
    cases hx
  | _ => cases ((agrees_idle (by simp [IdleState, hk])).1 h).2.2

/-- Agreement reads state, configuration, join number and the waiting flag of a channel, and of the entries all but the bypass. -/
theorem Agrees.congr (h : Agrees k record entries claims) (hs : m.state = k.state) (hc : m.cfg = k.cfg)
    (hj : m.joinNumber = k.joinNumber) (hw : m.cycleReturnWaiting = k.cycleReturnWaiting) : Agrees m record entries claims := by
  simpa only [Agrees, hs, hc, hj, hw] using h

theorem Agrees.of_length {entries' : List Waiting} (h : Agrees k record entries claims)
    (hl : entries'.length = entries.length)
    (hm : ∀ x ∈ entries', ∃ y ∈ entries, ∃ n, x = { y with bypass := n }) : Agrees k record entries' claims := by
  obtain ⟨h1, h2, h3⟩ := h
  refine ⟨h1, ?_, ?_⟩
  · intro x hx
    obtain ⟨y, hy, n, rfl⟩ := hm x hx
    exact h2 y hy
  · simpa only [← List.length_eq_zero_iff, hl] using h3

/-! What the operations of the Budget Manager keep. -/

variable {b}

/-- The other channels are as they were. -/
theorem Budget.AgreesWith.of_one {b' : Budget} {k k' : Chan → Channel} (h : b.AgreesWith k)
    (hc : Agrees (k' c) (b'.records.get c) (b'.entriesOf c) (b'.claimsOf c))
    (hd : ∀ d, d ≠ c → k' d = k d ∧ b'.records.get d = b.records.get d ∧ b'.entriesOf d = b.entriesOf d
      ∧ b'.claimsOf d = b.claimsOf d) : b'.AgreesWith k' := by
  intro d
  by_cases hdc : d = c
  · exact hdc ▸ hc
  · obtain ⟨h1, h2, h3, h4⟩ := hd d hdc
    rw [h1, h2, h3, h4]
    exact h d

theorem Budget.AgreesWith.sameHoldings {b' : Budget} {k : Chan → Channel} (h : b.AgreesWith k) (hb : b.SameHoldings b') :
    b'.AgreesWith k := by
  obtain ⟨hr, -, hc, g, hq⟩ := hb
  intro d
  have he : b'.entriesOf d = (b.entriesOf d).map fun e : Waiting => { e with bypass := g e } := by
    rw [Budget.entriesOf, hq, List.filter_map]
    rfl
  rw [hr, he, Budget.claimsOf, hc]
  refine (h d).of_length (List.length_map _) fun x hx => ?_
  obtain ⟨y, hy, rfl⟩ := List.mem_map.1 hx
  exact ⟨y, hy, g y, rfl⟩

theorem Budget.AgreesWith.grantClaim {k : Chan → Channel} (h : b.AgreesWith k) {x : Claim} {rest : List Claim}
    (hx : b.claims = x :: rest) (now : Nat) : (b.grantClaim now x rest).AgreesWith k := by
  have hself : b.claimsOf x.chan = x :: rest.filter fun y => y.chan == x.chan := by simp [Budget.claimsOf, hx]
  have hagree := h x.chan
  rw [hself] at hagree
  obtain ⟨hs, hw, hrest, he, r, hr, ha, hcls⟩ := hagree.of_claim
  refine h.of_one (c := x.chan) ((agrees_cycleOff hs).2 ?_) fun d hd => ⟨rfl, b.onRecord_ne _ hd, rfl, ?_⟩
  · refine ⟨{ r with grantStamp := now, phase := .starting, slot := true, grantTaken := false, claimWaiting := false }, ?_, ha,
      hcls, he, .inr ⟨⟨rfl, rfl, rfl⟩, hw, hrest⟩⟩
    exact (b.onRecord_self _).trans (by rw [hr]; rfl)
  · have hxd : (x.chan == d) = false := by simpa using fun h' => hd h'.symm
    show rest.filter _ = _
    rw [Budget.claimsOf, hx, List.filter_cons, hxd]
    rfl

theorem Budget.AgreesWith.grantEntry {k : Chan → Channel} (h : b.AgreesWith k) {e : Waiting} {rest : List Waiting}
    (hw : b.walk = some (e, rest)) (now : Nat) : (b.grantEntry now e rest).AgreesWith k := by
  obtain ⟨passed, behind, hq, hrest, -⟩ := (walkQueue_some_iff _ _ _ _ _ _).1 hw
  let g : Waiting → Nat := fun x => (passedEntry b.shedLevel x).bypass
  have hpass : passed.map (passedEntry b.shedLevel) = passed.map fun x : Waiting => { x with bypass := g x } := by
    refine List.map_congr_left fun x _ => ?_
    simp only [g, passedEntry]
    split <;> rfl
  have hmem : e ∈ b.entriesOf e.chan := by simp [Budget.entriesOf, hq]
  obtain ⟨hs, -, hent, hcl, ha, hcls, -⟩ := (h e.chan).of_entry hmem
  have hfilter (d : Chan) : (b.grantEntry now e rest).entriesOf d
      = ((passed.filter fun x => x.chan == d).map fun x : Waiting => { x with bypass := g x }) ++ behind.filter fun x => x.chan == d := by
    show rest.filter _ = _
    rw [hrest, hpass, List.filter_append, List.filter_map]
    rfl
  intro d
  by_cases hd : d = e.chan
  · subst hd
    refine (agrees_queued hs).2 ⟨hcl, .inr ⟨_, PerChan.get_set_self .., ha, hcls, ⟨rfl, rfl, rfl⟩, ?_⟩⟩
    rw [Budget.entriesOf, hq, List.filter_append, List.filter_cons, beq_self_eq_true, if_pos rfl] at hent
    obtain ⟨h1, h2⟩ : passed.filter (fun x => x.chan == e.chan) = [] ∧ behind.filter (fun x => x.chan == e.chan) = [] := by
      have := congrArg List.length hent
      simp only [List.length_append, List.length_cons, List.length_nil] at this
      exact ⟨List.eq_nil_of_length_eq_zero (by omega), List.eq_nil_of_length_eq_zero (by omega)⟩
    rw [hfilter, h1, h2]
    rfl
  · have hed : (e.chan == d) = false := by simpa using fun h' => hd h'.symm
    have hold : b.entriesOf d = (passed.filter fun x => x.chan == d) ++ behind.filter fun x => x.chan == d := by
      rw [Budget.entriesOf, hq, List.filter_append, List.filter_cons, hed]
      rfl
    rw [show (b.grantEntry now e rest).records.get d = b.records.get d from PerChan.get_set_ne _ _ hd]
    refine (h d).of_length (by rw [hfilter, hold]; simp) fun x hx => ?_
    rw [hold]
    rcases List.mem_append.1 (hfilter d ▸ hx) with hx | hx
    · obtain ⟨y, hy, rfl⟩ := List.mem_map.1 hx
      exact ⟨y, List.mem_append_left _ hy, _, rfl⟩
    · exact ⟨x, List.mem_append_right _ hx, _, rfl⟩

theorem Budget.AgreesWith.runScan {k : Chan → Channel} (h : b.AgreesWith k) (now : Nat) : (b.runScan now).AgreesWith k :=
  Budget.runScan_keeps (P := fun b => b.AgreesWith k) (fun _ _ _ hc _ h => h.grantClaim hc now)
    (fun _ _ _ hw _ h => h.grantEntry hw now) (fun _ h => h) h

/-- A channel that has given up all it held, and is in a state that holds nothing. -/
theorem Budget.AgreesWith.drop {k k' : Chan → Channel} (h : b.AgreesWith k) (hc : IdleState (k' c).state)
    (hd : ∀ d, d ≠ c → k' d = k d) : (b.drop c).AgreesWith k' :=
  h.of_one ((agrees_idle hc).2 ⟨PerChan.get_set_self .., b.drop_entriesOf_self, b.drop_claimsOf_self⟩)
    fun d hdc => ⟨hd d hdc, b.drop_record_ne hdc, b.drop_entriesOf_ne hdc, b.drop_claimsOf_ne hdc⟩

/-- A channel that held nothing joins the queue. -/
theorem Budget.AgreesWith.join {k k' : Chan → Channel} (h : b.AgreesWith k) (hold : IdleState (k c).state)
    (hs : (k' c).state = .queued) (hn : (k' c).joinNumber = b.nextJoin) (hd : ∀ d, d ≠ c → k' d = k d) (now : Nat)
    (origin : Origin) : (b.join now c (k' c).cfg origin).AgreesWith k' := by
  obtain ⟨hr, he, hc⟩ := (agrees_idle hold).1 (h c)
  refine h.of_one (c := c) ((agrees_queued hs).2 ⟨hc, .inl ⟨hr, _, b.join_entriesOf_self now _ origin he, rfl, rfl, hn.symm⟩⟩)
    fun d hdc => ⟨hd d hdc, rfl, b.join_entriesOf_ne now _ origin hdc, rfl⟩

/-- A channel's record changes, and its state with it. -/
theorem Budget.AgreesWith.onRecord {k k' : Chan → Channel} (h : b.AgreesWith k) (f : Reservation → Reservation)
    (hc : Agrees (k' c) ((b.records.get c).map f) (b.entriesOf c) (b.claimsOf c)) (hd : ∀ d, d ≠ c → k' d = k d) :
    (b.onRecord c f).AgreesWith k' :=
  h.of_one (c := c) (by rw [b.onRecord_self]; exact hc) fun d hdc => ⟨hd d hdc, b.onRecord_ne f hdc, rfl, rfl⟩

/-- The grant pending of a channel's record is what the table has as a grant in transit. -/
theorem Budget.grantPending_iff : b.grantPending c = true ↔
    ∃ r, b.records.get c = some r ∧ r.phase = .starting ∧ r.grantTaken = false := by
  unfold Budget.grantPending
  cases b.records.get c <;> simp

/-! Every move. -/

variable {s t : State} {i : Instr}

theorem BudgetAgrees.onChan (h : BudgetAgrees s) {f : Channel → Channel}
    (hf : Agrees (f (s.chan c)) (s.budget.records.get c) (s.budget.entriesOf c) (s.budget.claimsOf c)) :
    BudgetAgrees (s.onChan c f) :=
  Budget.AgreesWith.of_one (c := c) h (by rw [State.onChan_chan_self]; exact hf)
    fun d hd => ⟨State.onChan_chan_ne _ _ hd, rfl, rfl, rfl⟩

theorem BudgetAgrees.leave (h : BudgetAgrees s) (c : Chan) {entered : ChState} (he : IdleState entered) (reason : OffReason) :
    BudgetAgrees (s.leave c entered reason) := by
  obtain ⟨h1, h2, h3⟩ := s.leave_spec c entered reason
  rw [budgetAgrees_iff, h2]
  exact Budget.AgreesWith.drop h (by rw [h1]; exact he) h3

theorem BudgetAgrees.fault (h : BudgetAgrees s) (c : Chan) (reason : OffReason) : BudgetAgrees (s.faulted c reason) := by
  obtain ⟨h1, h2⟩ := s.faulted_spec c reason
  rw [budgetAgrees_iff, h1]
  refine Budget.AgreesWith.drop h ?_ fun d hd => s.faulted_only c reason (.chan d) (by simpa using hd)
  rw [h2]
  show IdleState (if _ then _ else _)
  split <;> simp [IdleState]

theorem BudgetAgrees.joinQueue (h : BudgetAgrees s) {c : Chan} (hs : IdleState (s.chan c).state) (origin : Origin) :
    BudgetAgrees (s.joinQueue c origin) := by
  obtain ⟨h1, h2, h3⟩ := s.joinQueue_spec c origin
  rw [budgetAgrees_iff, h2, show (s.chan c).cfg = ((s.joinQueue c origin).chan c).cfg by rw [h1]]
  exact Budget.AgreesWith.join h hs (by rw [h1]) (by rw [h1]) h3 _ _

/-- CYCLE_OFF from ON (R17): the record is kept, without a slot. -/
theorem BudgetAgrees.enterCycleOff (h : BudgetAgrees s) (hk : ChannelsSound s) {c : Chan} (hs : (s.chan c).state = .on) :
    BudgetAgrees (s.enterCycleOff c) := by
  obtain ⟨r, hr, ha, hcls, -, -, he, hcl⟩ := (agrees_on hs).1 (h c)
  have hw : (s.chan c).cycleReturnWaiting = false := by
    obtain ⟨-, -, -, -, -, h6, -⟩ := hk c
    by_contra hw
    simpa [hs] using h6 (by simpa using hw)
  refine Budget.AgreesWith.onRecord (b := s.budget) (k := s.chan) h _ ?_ fun d hd => State.onChan_chan_ne s _ hd
  rw [show (s.enterCycleOff c).chan c = _ from State.onChan_chan_self .., hr]
  exact (agrees_cycleOff rfl).2 ⟨_, rfl, ha, hcls, he, .inl ⟨rfl, rfl, by simp [hcl, hw]⟩⟩

/-- STARTING from a grant in transit (R13, R36). -/
theorem BudgetAgrees.enterStarting (h : BudgetAgrees s) {c : Chan} (cause : ChangeCause)
    (hs : (s.chan c).state = .queued ∨ (s.chan c).state = .cycleOff) (hg : s.budget.grantPending c = true) :
    BudgetAgrees (s.enterStarting c cause) := by
  obtain ⟨r, hr, hp, ht⟩ := Budget.grantPending_iff.1 hg
  have hheld : r.amount = (s.chan c).cfg.allowance ∧ r.cls = (s.chan c).cfg.cls ∧ r.slot = true ∧ s.budget.entriesOf c = []
      ∧ s.budget.claimsOf c = [] := by
    have hc := h c
    rcases hs with hs | hs
    · obtain ⟨hcl, ⟨hn, -⟩ | ⟨q, hq, ha, hcls, ⟨-, hslot, -⟩, he⟩⟩ := (agrees_queued hs).1 hc
      · rw [hr] at hn
        cases hn
      · obtain rfl : r = q := Option.some.inj (hr.symm.trans hq)
        exact ⟨ha, hcls, hslot, he, hcl⟩
    · obtain ⟨q, hq, ha, hcls, he, ⟨hph, -⟩ | ⟨⟨-, hslot, -⟩, -, hcl⟩⟩ := (agrees_cycleOff hs).1 hc
      · obtain rfl : r = q := Option.some.inj (hr.symm.trans hq)
        rw [hp] at hph
        cases hph
      · obtain rfl : r = q := Option.some.inj (hr.symm.trans hq)
        exact ⟨ha, hcls, hslot, he, hcl⟩
  obtain ⟨ha, hcls, hslot, he, hcl⟩ := hheld
  refine Budget.AgreesWith.onRecord (b := s.budget) (k := s.chan) h _ ?_ fun d hd => State.onChan_chan_ne s _ hd
  rw [show (s.enterStarting c cause).chan c = _ from State.onChan_chan_self .., hr]
  exact (agrees_starting rfl).2 ⟨_, rfl, ha, hcls, hp, hslot, rfl, he, hcl⟩

/-- ON from STARTING (R14): the slot is released. -/
theorem BudgetAgrees.enterOn (h : BudgetAgrees s) {c : Chan} (hs : (s.chan c).state = .starting) :
    BudgetAgrees (s.enterOn c) := by
  obtain ⟨r, hr, ha, hcls, -, -, -, he, hcl⟩ := (agrees_starting hs).1 (h c)
  refine Budget.AgreesWith.onRecord (b := s.budget) (k := s.chan) h _ ?_ fun d hd => State.onChan_chan_ne s _ hd
  rw [show (s.enterOn c).chan c = _ from State.onChan_chan_self .., hr]
  exact (agrees_on rfl).2 ⟨_, rfl, ha, hcls, rfl, rfl, he, hcl⟩

/-- A claim is placed in CYCLE_OFF while its timer still runs, so none waits yet (R20). -/
theorem BudgetAgrees.placeClaim (h : BudgetAgrees s) (hk : ChannelsSound s) {c : Chan} {expiry : Nat}
    (hs : (s.chan c).state = .cycleOff) (ht : (s.chan c).timer = .cycle expiry) : BudgetAgrees (s.placeClaim c expiry) := by
  have hw : (s.chan c).cycleReturnWaiting = false := by
    obtain ⟨-, -, -, -, h5, -⟩ := hk c
    by_contra hw
    have hw : (s.chan c).cycleReturnWaiting = true := by simpa using hw
    simp [hs, hw, ht] at h5
  obtain ⟨r, hr, ha, hcls, he, ⟨hp, hslot, hcl⟩ | ⟨-, hw', -⟩⟩ := (agrees_cycleOff hs).1 (h c)
  · refine Budget.AgreesWith.of_one (b := s.budget) (k := s.chan) (c := c) h ?_ fun d hd =>
      ⟨State.onChan_chan_ne s _ hd, s.budget.onRecord_ne _ hd, rfl, s.budget.placeClaim_claimsOf_ne _ hd⟩
    let waiting := { s.chan c with cycleReturnWaiting := true, timer := .none, claimNumber := s.budget.nextClaim }
    rw [show (s.placeClaim c expiry).chan c = waiting from State.onChan_chan_self ..]
    refine (agrees_cycleOff (k := waiting) hs).2 ⟨{ r with claimWaiting := true }, ?_, ha, hcls, he, .inl ⟨hp, hslot, ?_⟩⟩
    · exact (s.budget.onRecord_self _).trans (by rw [hr]; rfl)
    refine (s.budget.placeClaim_claimsOf_self expiry).trans ?_
    rw [show (s.budget.claimsOf c).length = 0 by simpa [hw] using hcl]
    rfl
  · rw [hw] at hw'
    cases hw'

theorem BudgetAgrees.cooldownEnded (h : BudgetAgrees s) {c : Chan} (hs : (s.chan c).state = .cooldown) :
    BudgetAgrees (s.cooldownEnded c) := by
  have hidle : IdleState (s.chan c).state := by simp [IdleState, hs]
  have ht : BudgetAgrees (s.onChan c fun k => { k with timer := .none }) := h.onChan ((h c).congr rfl rfl rfl rfl)
  unfold State.cooldownEnded
  dsimp only
  split
  · exact ht.joinQueue (by rwa [State.onChan_chan_self]) .retry
  · refine ht.onChan (c := c) ?_
    rw [agrees_idle (by simp [IdleState])]
    exact (agrees_idle hidle).1 (h c)

theorem BudgetAgrees.configure (h : BudgetAgrees s) {c : Chan} (hs : ChState.configurable (s.chan c).state = true)
    (cfg : ChannelConfig) : BudgetAgrees (s.onChan c fun k => k.configure cfg) := by
  have hidle : IdleState (s.chan c).state := by
    cases hk : (s.chan c).state <;> simp_all [IdleState, ChState.configurable]
  have hidle' : IdleState ((s.chan c).configure cfg).state := by
    cases he : cfg.enabled <;> cases hk : (s.chan c).state <;>
      simp_all [IdleState, Channel.configure, configuredState, ChState.configurable]
  refine h.onChan ?_
  rw [agrees_idle hidle']
  exact (agrees_idle hidle).1 (h c)

theorem BudgetAgrees.atPowerOn (s : State) : BudgetAgrees s.atPowerOn := by
  intro c
  rw [atPowerOn_chan, agrees_idle]
  · exact ⟨PerChan.get_ofFn .., rfl, rfl⟩
  · unfold Channel.atPowerOn
    dsimp only
    split <;> simp [IdleState]

theorem BudgetAgrees.powerLost (s : State) : BudgetAgrees s.powerLost := by
  intro c
  cases c <;> exact (agrees_idle (.inl rfl)).2 ⟨rfl, rfl, rfl⟩

/-- After a controller restart a channel is held ON with its record, or holds nothing (R136 step 1). -/
theorem BudgetAgrees.atRestart (s : State) : BudgetAgrees s.atRestart := by
  intro c
  have hrec : s.atRestart.budget.records.get c = heldRecord (s.atRestart.chan c) := PerChan.get_ofFn ..
  show Agrees _ _ [] []
  rw [hrec]
  unfold heldRecord
  split
  · next hs => exact (agrees_on hs).2 ⟨_, rfl, rfl, rfl, rfl, rfl, rfl, rfl⟩
  · next hs =>
    refine (agrees_idle ?_).2 ⟨rfl, rfl, rfl⟩
    rw [atRestart_chan] at hs ⊢
    revert hs
    simp only [Channel.atRestart]
    generalize (s.atRestart.profile.loaded.channels.get c).enabled = e
    cases e <;> cases (s.chan c).state <;> simp [restartState, IdleState]

theorem move_keeps_budgetAgrees (m : Move i s t) (hk : ChannelsSound s) (h : BudgetAgrees s) : BudgetAgrees t := by
  cases m with
  | frame hf =>
    intro c
    rw [show t.budget = s.budget from hf .budget (by simp), show t.chan c = s.chan c from hf (.chan c) (by simp)]
    exact h c
  | schedule | link | notices | settings => exact h
  | budget f hf => exact Budget.AgreesWith.sameHoldings h hf
  | scan => exact Budget.AgreesWith.runScan h _
  | chan c f hf =>
    refine h.onChan ?_
    rw [hf.1]
    exact (h c).congr rfl rfl rfl rfl
  | leave c entered reason he => exact h.leave c (by rcases he with rfl | rfl <;> simp [IdleState]) reason
  | fault c reason => exact h.fault c reason
  | join c origin hs => exact h.joinQueue (by simp [IdleState, hs]) origin
  | cycleOff c hs => exact h.enterCycleOff hk hs
  | pendCycle c request hs => exact h.onChan ((h c).congr rfl rfl rfl rfl)
  | clear c _ hs =>
    refine h.onChan ?_
    rw [agrees_idle (by simp [IdleState])]
    exact (agrees_idle (by simp [IdleState, hs])).1 (h c)
  | starting c cause hs hg => exact h.enterStarting cause (hs.imp_right And.left) hg
  | on c hs => exact h.enterOn hs
  | retryWindow c hs => exact h.onChan ((h c).congr rfl rfl rfl rfl)
  | claim c expiry hs ht => exact h.placeClaim hk hs ht
  | cooldown c hs => exact h.cooldownEnded hs
  | configure c cfg _ hs => exact h.configure hs cfg
  | powerLost => exact .powerLost s
  | powerOn => exact .atPowerOn s
  | restart => exact .atRestart s

/-- Settles O7: every move keeps the channels sound and the agreement, the second by the first. -/
theorem stepKeepsBudgetAgrees : Obligations.StepKeepsBudgetAgrees := fun _ _ hk hs h =>
  (step_keeps (P := fun s => ChannelsSound s ∧ BudgetAgrees s)
    (fun _ s t m h => ⟨move_keeps_channelsSound s t m h.1, move_keeps_budgetAgrees m h.1 h.2⟩)
    (fun s t hf h => ⟨h.1.of_same fun c => hf (.chan c) (by simp), fun c => by
      rw [show t.budget = s.budget from hf .budget (by simp), show t.chan c = s.chan c from hf (.chan c) (by simp)]
      exact h.2 c⟩) h ⟨hk, hs⟩).2

end Sys2Proof.Machine
end

section
/-! Proofs: a channel stays LATCHED under every move but those of four commands and of a start of the part (R65, R135). -/

namespace Sys2Proof.Machine

/-- The commands that may take a channel out of LATCHED. -/
def MayUnlatch (i : Instr) : Prop :=
  i = .channelClear ∨ i = .channelConfig ∨ i = .powerOn ∨ i = .powerLoss ∨ CanRestart i

/-- A channel that is not LATCHED is another one than a LATCHED channel. -/
theorem State.chan_ne_of_latched {s : State} {c d : Chan} (h : (s.chan c).state = .latched) (hd : (s.chan d).state ≠ .latched) :
    c ≠ d := by
  rintro rfl
  exact hd h

theorem State.onChan_latched {s : State} {c d : Chan} (f : Channel → Channel) (h : (s.chan c).state = .latched)
    (hf : c = d → (f (s.chan d)).state = .latched) : ((s.onChan d f).chan c).state = .latched := by
  by_cases hcd : c = d
  · subst hcd
    rw [State.onChan_chan_self]
    exact hf rfl
  · rwa [State.onChan_chan_ne s f hcd]

/-- A LATCHED channel holds nothing with the Budget Manager, so that no one makes it leave (R4). -/
theorem BudgetAgrees.not_leavable {s : State} {c : Chan} (h : BudgetAgrees s) (hc : (s.chan c).state = .latched) :
    ¬s.Leavable c := by
  obtain ⟨hr, he, -⟩ := (agrees_idle (by simp [IdleState, hc])).1 (h c)
  rintro (hs | hs | hs)
  · exact hs hc
  · simp [hr] at hs
  · obtain ⟨e, hmem, hec⟩ := List.any_eq_true.1 hs
    have : e ∈ s.budget.entriesOf c := List.mem_filter.2 ⟨hmem, hec⟩
    rw [Budget.entriesOf, he] at this
    cases this

theorem move_keeps_latched {i : Instr} (hi : ¬MayUnlatch i) {c : Chan} {s t : State} (m : Move i s t) (hb : BudgetAgrees s)
    (h : (s.chan c).state = .latched) : (t.chan c).state = .latched := by
  have other {d : Chan} (f : Channel → Channel) (hd : (s.chan d).state ≠ .latched) :
      ((s.onChan d f).chan c).state = .latched :=
    State.onChan_latched f h fun hcd => absurd hcd (State.chan_ne_of_latched h hd)
  cases m with
  | frame hf => rwa [show t.chan c = s.chan c from hf (.chan c) (by simp)]
  | schedule | link | notices | budget | scan | settings => exact h
  | chan d f hf =>
    refine State.onChan_latched f h fun hcd => ?_
    rw [hf.1]
    exact hcd ▸ h
  | leave d entered reason he hl =>
    refine State.onChan_latched _ h fun hcd => ?_
    subst hcd
    exact absurd hl (hb.not_leavable h)
  | fault d reason _ hs =>
    have hcd : c ≠ d := State.chan_ne_of_latched h (by rcases hs with hs | hs <;> simp [hs])
    rwa [show (s.faulted d reason).chan c = s.chan c from s.faulted_only d reason (.chan c) (by simpa using hcd)]
  | join d origin hs => exact other _ (by simp [hs])
  | cycleOff d hs | pendCycle d _ hs | on d hs | retryWindow d hs | claim d _ hs => exact other _ (by simp [hs])
  | clear _ hc => exact absurd (.inl hc) hi
  | starting d cause hs => exact other _ (by rcases hs with hs | ⟨hs, -⟩ <;> simp [hs])
  | cooldown d hs => rwa [s.cooldownEnded_chan_ne (State.chan_ne_of_latched h (by simp [hs]))]
  | configure _ _ hc => exact absurd (.inr (.inl hc)) hi
  | powerLost hc => exact absurd (.inr (.inr (hc.imp_right .inl))) hi
  | powerOn hc => exact absurd (.inr (.inr (.inl hc))) hi
  | restart hc => exact absurd (.inr (.inr (.inr (.inr hc)))) hi

/-- Settles O13: with the Budget Manager holding nothing of a LATCHED channel, no other move reaches its state. -/
theorem latchedIsLeftOnlyBy : Obligations.LatchedIsLeftOnlyBy := by
  intro i s t c hk hb h hs ht
  by_contra hi
  refine ht (Moves.keeps (P := fun s => ChannelsSound s ∧ BudgetAgrees s ∧ (s.chan c).state = .latched) ?_ (exec_moves h)
    ⟨hk, hb, hs⟩).2.2
  exact fun s t m ⟨hk, hb, hs⟩ =>
    ⟨move_keeps_channelsSound s t m hk, move_keeps_budgetAgrees m hk hb, move_keeps_latched hi m hb hs⟩

end Sys2Proof.Machine
end

section
/-! Proofs: the trip total (R66). Every move but a fault and the supply leaves it alone, and a fault adds 1 to that of its channel. -/

namespace Sys2Proof.Machine
variable {i : Instr} {s t : State} {c : Chan}

theorem State.onChan_tripTotal (d : Chan) (f : Channel → Channel) (hf : (f (s.chan d)).tripTotal = (s.chan d).tripTotal) :
    ((s.onChan d f).chan c).tripTotal = (s.chan c).tripTotal := by
  by_cases hcd : c = d
  · subst hcd
    rw [State.onChan_chan_self, hf]
  · rw [State.onChan_chan_ne s f hcd]

theorem move_tripTotal (hi : ¬CanFault i) (m : Move i s t) :
    (t.chan c).tripTotal = (s.chan c).tripTotal
      ∨ ((t.chan c).tripTotal = 0 ∧ (i = .powerOn ∨ i = .powerLoss)) := by
  cases m with
  | frame hf => exact .inl (by rw [show t.chan c = s.chan c from hf (.chan c) (by simp)])
  | schedule | link | notices | budget | scan | settings => exact .inl rfl
  | chan d f hf => exact .inl (s.onChan_tripTotal d f (by rw [hf.1]))
  | fault _ _ hc => exact absurd hc hi
  | leave d | join d | cycleOff d | pendCycle d | clear d | starting d | on d | retryWindow d | claim d | configure d =>
    exact .inl (s.onChan_tripTotal d _ rfl)
  | cooldown d =>
    left
    by_cases hcd : c = d
    · subst hcd
      rw [s.cooldownEnded_chan]
    · rw [s.cooldownEnded_chan_ne hcd]
  | powerLost hc =>
    refine .inr ⟨?_, hc⟩
    cases c <;> rfl
  | powerOn hc =>
    refine .inr ⟨?_, .inl hc⟩
    rw [atPowerOn_chan]
    rfl
  | restart =>
    left
    rw [atRestart_chan]
    rfl

/-- A fault that is taken counts at its channel and at no other (R56, R59). -/
theorem State.faultTaken_tripTotal (s : State) (d : Chan) (reason : OffReason) (body : NoticeBody) (fault : FaultKind)
    (left : ChState) :
    ((((s.faulted d reason).post (some d) body).postExhausted d fault left).settle.chan c).tripTotal
      = if c = d then min 65535 ((s.chan d).tripTotal + 1) else (s.chan c).tripTotal := by
  have h1 := State.settle_only (((s.faulted d reason).post (some d) body).postExhausted d fault left) (.chan c) (by simp [eventEnd])
  have h2 := State.postExhausted_only ((s.faulted d reason).post (some d) body) d fault left (.chan c) (by simp)
  rw [h1, h2, State.post_chan]
  split
  · next h =>
    subst h
    rw [(s.faulted_spec c reason).2]
    rfl
  · next h => rw [s.faulted_only d reason (.chan c) (by simpa using h)]

theorem takeTrip_tripTotal (d : Chan) (arming : Nat) :
    ((s.takeTrip d arming).chan c).tripTotal
      = if arming ∈ (s.chan d).trips ∧ (s.chan d).state = .on ∧ (s.chan d).comparator.armingNumber = arming ∧ c = d then
          min 65535 ((s.chan c).tripTotal + 1)
        else (s.chan c).tripTotal := by
  have hgone (x : Chan) : ((s.removeTrip d arming).chan x).tripTotal = (s.chan x).tripTotal := s.onChan_tripTotal d _ rfl
  unfold State.takeTrip
  dsimp only
  by_cases h1 : arming ∈ (s.chan d).trips
  · rw [if_pos h1]
    by_cases h2 : (s.chan d).state = .on ∧ (s.chan d).comparator.armingNumber = arming
    · rw [if_pos h2]
      refine (State.faultTaken_tripTotal _ d _ _ _ _).trans ?_
      obtain ⟨hs, ha⟩ := h2
      by_cases hcd : c = d
      · subst hcd
        rw [if_pos rfl, if_pos ⟨h1, hs, ha, rfl⟩, hgone]
      · rw [if_neg hcd, if_neg fun h => hcd h.2.2.2, hgone]
    · rw [if_neg h2, if_neg fun h => h2 ⟨h.2.1, h.2.2.1⟩, hgone]
  · rw [if_neg h1, if_neg fun h => h1 h.1]

theorem ChTimer.startDue_iff (x : ChTimer) (now : Nat) : x.startDue now = true ↔ ∃ e, x = .start e ∧ e ≤ now := by
  cases x <;> simp [ChTimer.startDue]

/-- No fault: the commands of the supply leave 0, and every other command leaves the total alone. -/
theorem tripTotal_of_not_canFault (hi : ¬CanFault i) (h : exec i s = .next t) :
    (i = .powerOn ∨ i = .powerLoss → (t.chan c).tripTotal = 0)
    ∧ (i ≠ .powerOn → i ≠ .powerLoss → (t.chan c).tripTotal = (s.chan c).tripTotal) := by
  have lost : (s.powerLost.chan c).tripTotal = 0 := by cases c <;> rfl
  constructor
  · rintro (rfl | rfl)
    · cases h
      refine (powerOn_moves rfl).keeps (P := fun x => (x.chan c).tripTotal = 0) (fun x y m hx => ?_) lost
      rcases move_tripTotal hi m with h | ⟨h, -⟩
      · rw [h, hx]
      · exact h
    · cases h
      exact lost
  · intro h1 h2
    refine (exec_moves h).keeps (P := fun x => (x.chan c).tripTotal = (s.chan c).tripTotal) (fun x y m hx => ?_) rfl
    rcases move_tripTotal hi m with h | ⟨-, h⟩
    · rw [h, hx]
    · exact absurd h (by simp [h1, h2])

theorem startTimerExpiry_tripTotal {d : Chan} (h : exec (.startTimerExpiry d) s = .next t) (hpow : s.powered = true) :
    (t.chan c).tripTotal
      = if ((s.chan d).state = .starting ∧ (s.chan d).timer.startDue s.uptime = true) ∧ c = d then
          min 65535 ((s.chan c).tripTotal + 1)
        else (s.chan c).tripTotal := by
  rw [exec_startTimerExpiry, live_powered hpow] at h
  cases h
  by_cases hs : (s.chan d).state = .starting ∧ (s.chan d).timer.startDue s.uptime = true
  · rw [if_pos hs]
    refine (State.faultTaken_tripTotal _ d _ _ _ _).trans ?_
    by_cases hcd : c = d
    · subst hcd
      rw [if_pos rfl, if_pos ⟨hs, rfl⟩]
    · rw [if_neg hcd, if_neg fun h => hcd h.2]
  · rw [if_neg hs, if_neg fun h => hs h.1]

/-- Settles O14: the two commands that take a fault count it, and no other command's moves reach a trip total but the supply's. -/
theorem tripTotalCountsFaults : Obligations.TripTotalCountsFaults := by
  intro i s t c h
  dsimp only
  by_cases hi : CanFault i
  swap
  · obtain ⟨h1, h2⟩ := tripTotal_of_not_canFault (c := c) hi h
    refine ⟨?_, h1, fun _ => h2⟩
    rintro ⟨-, ⟨arming, rfl, -⟩ | ⟨deadline, rfl, -⟩⟩
    · exact absurd (.inl ⟨c, arming, rfl⟩) hi
    · exact absurd (.inr ⟨c, rfl⟩) hi
  by_cases hpow : s.powered = true
  swap
  · have hts : t = s := by
      rcases hi with ⟨d, arming, rfl⟩ | ⟨d, rfl⟩
      · rw [exec_tripEvent, live_unpowered (by simpa using hpow)] at h
        cases h
        rfl
      · rw [exec_startTimerExpiry, live_unpowered (by simpa using hpow)] at h
        cases h
        rfl
    subst hts
    refine ⟨fun hc => absurd hc.1 hpow, ?_, fun _ _ _ => rfl⟩
    rcases hi with ⟨d, arming, rfl⟩ | ⟨d, rfl⟩ <;> simp
  rcases hi with ⟨d, arming, rfl⟩ | ⟨d, rfl⟩
  · rw [exec_tripEvent, live_powered hpow] at h
    cases h
    rw [takeTrip_tripTotal]
    refine ⟨?_, by simp, fun hc _ _ => if_neg ?_⟩
    · rintro ⟨-, ⟨a, he, h1, h2, h3⟩ | ⟨e, he, -⟩⟩
      · cases he
        exact if_pos ⟨h1, h2, h3, rfl⟩
      · cases he
    · rintro ⟨h1, h2, h3, rfl⟩
      exact hc ⟨hpow, .inl ⟨arming, rfl, h1, h2, h3⟩⟩
  · rw [startTimerExpiry_tripTotal h hpow]
    refine ⟨?_, by simp, fun hc _ _ => if_neg ?_⟩
    · rintro ⟨-, ⟨a, he, -⟩ | ⟨e, he, h1, h2, h3⟩⟩
      · cases he
      · cases he
        exact if_pos ⟨⟨h1, (ChTimer.startDue_iff _ _).2 ⟨e, h2, h3⟩⟩, rfl⟩
    · rintro ⟨⟨h1, h2⟩, rfl⟩
      obtain ⟨e, h3, h4⟩ := (ChTimer.startDue_iff _ _).1 h2
      exact hc ⟨hpow, .inr ⟨e, rfl, h1, h3, h4⟩⟩

end Sys2Proof.Machine
end

section
/-! Proofs: committed stays within the limit and the slots in use within the start slots (R28, R35, R37). Grants look before they
take; every other move only gives up; and a new limit and a restart shed until committed fits. -/

namespace Sys2Proof.Machine

/-! One record more or less. -/

theorem Budget.committed_set (b : Budget) {d : Budget} {c : Chan} {x : Option Reservation} (h : d.records = b.records.set c x) :
    d.committed + ((b.records.get c).map (·.amount)).getD 0 = b.committed + (x.map (·.amount)).getD 0 := by
  unfold Budget.committed
  rw [h]
  exact recordSum_set _ _ _ _

theorem Budget.slotsInUse_set (b : Budget) {d : Budget} {c : Chan} {x : Option Reservation} (h : d.records = b.records.set c x) :
    d.slotsInUse + ((b.records.get c).map (·.slot.toNat)).getD 0 = b.slotsInUse + (x.map (·.slot.toNat)).getD 0 := by
  unfold Budget.slotsInUse
  rw [h]
  exact recordSum_set _ _ _ _

/-- One record at most changes, and where it stays held it keeps its amount and takes no slot. -/
def Budget.Eases (b d : Budget) : Prop :=
  d.settings = b.settings
  ∧ (d.records = b.records ∨ ∃ c x, d.records = b.records.set c x
      ∧ (x = none ∨ ∃ r q, b.records.get c = some r ∧ x = some q ∧ q.amount = r.amount ∧ (q.slot = true → r.slot = true)))

/-- The limit and the start slots of some settings hold of the Budget Manager's records. -/
def Budget.Within (b : Budget) (limit slots : Nat) : Prop := b.committed ≤ limit ∧ b.slotsInUse ≤ slots

theorem budgetWithin_iff (s : State) : BudgetWithin s ↔ s.budget.Within s.budget.settings.limit s.budget.settings.slots := .rfl

variable {b d : Budget} {limit slots : Nat}

theorem Budget.Eases.committed_le (h : b.Eases d) : d.committed ≤ b.committed := by
  obtain ⟨-, h | ⟨c, x, h, hx⟩⟩ := h
  · simp [Budget.committed, h]
  · have hsum := b.committed_set h
    obtain rfl | ⟨r, q, hr, rfl, ha, -⟩ := hx
    · simp only [Option.map_none, Option.getD_none] at hsum
      omega
    · simp only [hr, Option.map_some, Option.getD_some] at hsum
      omega

theorem Budget.Eases.slotsInUse_le (h : b.Eases d) : d.slotsInUse ≤ b.slotsInUse := by
  obtain ⟨-, h | ⟨c, x, h, hx⟩⟩ := h
  · simp [Budget.slotsInUse, h]
  · have hsum := b.slotsInUse_set h
    obtain rfl | ⟨r, q, hr, rfl, -, hq⟩ := hx
    · simp only [Option.map_none, Option.getD_none] at hsum
      omega
    · simp only [hr, Option.map_some, Option.getD_some] at hsum
      have hle : q.slot.toNat ≤ r.slot.toNat := by
        cases hqs : q.slot
        · exact Nat.zero_le _
        · rw [hq hqs]
      omega

theorem Budget.Eases.of_eq (hs : d.settings = b.settings) (hr : d.records = b.records) : b.Eases d := ⟨hs, .inl hr⟩

theorem Budget.eases_drop (b : Budget) (c : Chan) : b.Eases (b.drop c) := ⟨rfl, .inr ⟨c, none, rfl, .inl rfl⟩⟩

theorem Budget.eases_onRecord (b : Budget) (c : Chan) (f : Reservation → Reservation) (ha : ∀ r, (f r).amount = r.amount)
    (hs : ∀ r, (f r).slot = true → r.slot = true) : b.Eases (b.onRecord c f) := by
  refine ⟨rfl, .inr ⟨c, (b.records.get c).map f, rfl, ?_⟩⟩
  cases hr : b.records.get c with
  | none => exact .inl rfl
  | some r => exact .inr ⟨r, f r, rfl, rfl, ha r, hs r⟩

/-! The scan. -/

theorem Budget.grantClaim_committed (b : Budget) (now : Nat) (x : Claim) (rest : List Claim) :
    (b.grantClaim now x rest).committed = b.committed := by
  have h := b.committed_set (d := b.grantClaim now x rest) rfl
  cases hr : b.records.get x.chan <;> simpa [hr] using h

theorem Budget.grantClaim_slotsInUse (b : Budget) (now : Nat) (x : Claim) (rest : List Claim) :
    (b.grantClaim now x rest).slotsInUse ≤ b.slotsInUse + 1 := by
  have h := b.slotsInUse_set (d := b.grantClaim now x rest) rfl
  cases hr : b.records.get x.chan <;> simp [hr] at h <;> omega

theorem Budget.grantEntry_sums (b : Budget) (now : Nat) (e : Waiting) (rest : List Waiting) :
    (b.grantEntry now e rest).committed ≤ b.committed + e.allowance ∧ (b.grantEntry now e rest).slotsInUse ≤ b.slotsInUse + 1 := by
  have h1 := b.committed_set (d := b.grantEntry now e rest) rfl
  have h2 := b.slotsInUse_set (d := b.grantEntry now e rest) rfl
  simp only [Option.map_some, Option.getD_some, Bool.toNat_true] at h1 h2
  omega

theorem Budget.runScan_slots (h : b.slotsInUse ≤ b.settings.slots) (now : Nat) :
    (b.runScan now).slotsInUse ≤ (b.runScan now).settings.slots :=
  Budget.runScan_keeps (P := fun b => b.slotsInUse ≤ b.settings.slots)
    (fun b x rest _ hs _ => (b.grantClaim_slotsInUse now x rest).trans hs)
    (fun b e rest _ hs _ => (b.grantEntry_sums now e rest).2.trans hs) (fun _ h => h) h

theorem Budget.runScan_committed (h : b.committed ≤ b.settings.limit) (now : Nat) :
    (b.runScan now).committed ≤ (b.runScan now).settings.limit := by
  refine Budget.runScan_keeps (P := fun b => b.committed ≤ b.settings.limit) (fun b x rest _ _ h => ?_)
    (fun b e rest hw _ h => ?_) (fun _ h => h) h
  · rw [b.grantClaim_committed]
    exact h
  · have hfit : e.allowance ≤ b.settings.limit - b.committed := (walkQueue_some hw).2.1
    have := (b.grantEntry_sums now e rest).1
    show (b.grantEntry now e rest).committed ≤ b.settings.limit
    omega

/-! Moves. -/

variable {i : Instr} {s t : State}

/-- The commands that put other settings into force. -/
def MayReconfigure (i : Instr) : Prop := i = .budgetConfig ∨ CanRestart i

theorem recordSums_none (h : ∀ c, b.records.get c = none) : b.committed = 0 ∧ b.slotsInUse = 0 :=
  ⟨recordSum_none _ _ h, recordSum_none _ _ h⟩

/-- What a move under settings that stay in force does to the Budget Manager: a scan, an easing, or it holds nothing at all. -/
theorem move_budget (hi : ¬MayReconfigure i) (m : Move i s t) :
    t.budget = s.budget.runScan s.uptime ∨ s.budget.Eases t.budget ∨ ∀ c, t.budget.records.get c = none := by
  cases m with
  | frame hf => exact .inr (.inl (.of_eq (by rw [show t.budget = s.budget from hf .budget (by simp)])
      (by rw [show t.budget = s.budget from hf .budget (by simp)])))
  | schedule | link | notices | chan | pendCycle | clear | retryWindow | configure => exact .inr (.inl (.of_eq rfl rfl))
  | budget f hf => exact .inr (.inl (.of_eq hf.2.1 hf.1))
  | scan => exact .inl rfl
  | settings _ hc => exact absurd (.inl hc) hi
  | leave c => exact .inr (.inl (s.budget.eases_drop c))
  | fault c reason =>
    rw [(s.faulted_spec c reason).1]
    exact .inr (.inl (s.budget.eases_drop c))
  | join c => exact .inr (.inl (.of_eq rfl rfl))
  | cycleOff c | starting c | on c => exact .inr (.inl (s.budget.eases_onRecord c _ (fun _ => rfl) (by simp)))
  | claim c expiry => exact .inr (.inl (s.budget.eases_onRecord c _ (fun _ => rfl) (by simp)))
  | cooldown c =>
    refine .inr (.inl (.of_eq ?_ ?_)) <;> unfold State.cooldownEnded <;> dsimp only <;> split <;> rfl
  | powerLost => exact .inr (.inr fun c => by cases c <;> rfl)
  | powerOn => exact .inr (.inr fun c => PerChan.get_ofFn ..)
  | restart hc => exact absurd (.inr hc) hi

theorem move_keeps_slots (hi : ¬MayReconfigure i) (m : Move i s t) (h : s.budget.slotsInUse ≤ s.budget.settings.slots) :
    t.budget.slotsInUse ≤ t.budget.settings.slots := by
  rcases move_budget hi m with hb | hb | hb
  · rw [hb]
    exact Budget.runScan_slots h _
  · rw [hb.1]
    exact hb.slotsInUse_le.trans h
  · simp [(recordSums_none hb).2]

theorem move_keeps_committed (hi : ¬MayReconfigure i) (m : Move i s t) (h : s.budget.committed ≤ s.budget.settings.limit) :
    t.budget.committed ≤ t.budget.settings.limit := by
  rcases move_budget hi m with hb | hb | hb
  · rw [hb]
    exact Budget.runScan_committed h _
  · rw [hb.1]
    exact hb.committed_le.trans h
  · simp [(recordSums_none hb).1]

theorem moves_keep_slots (hi : ¬MayReconfigure i) (m : Moves i s t) (h : s.budget.slotsInUse ≤ s.budget.settings.slots) :
    t.budget.slotsInUse ≤ t.budget.settings.slots :=
  m.keeps (P := fun s => s.budget.slotsInUse ≤ s.budget.settings.slots) (fun _ _ => move_keeps_slots hi) h

theorem moves_keep_within (hi : ¬MayReconfigure i) (m : Moves i s t) (h : BudgetWithin s) : BudgetWithin t :=
  ⟨m.keeps (P := fun s => s.budget.committed ≤ s.budget.settings.limit) (fun _ _ => move_keeps_committed hi) h.1,
    moves_keep_slots hi m h.2⟩

/-- The moves that any command may make keep the bounds: `identify` stands for a command that reconfigures nothing. -/
theorem identify_not_mayReconfigure : ¬MayReconfigure .identify := by
  rintro (h | h | ⟨_, _, h⟩) <;> cases h

/-! The sheds of the excess. -/

/-- How many records are held. -/
def Budget.heldCount (b : Budget) : Nat := recordSum b.records fun _ => 1

theorem Budget.heldCount_le (b : Budget) : b.heldCount ≤ 8 := by
  have one (x : Option Reservation) : (x.map fun _ => 1).getD 0 ≤ 1 := by cases x <;> simp
  rw [Budget.heldCount, recordSum_eq]
  have h (c : Chan) := one (b.records.get c)
  have := h .ch0; have := h .ch1; have := h .ch2; have := h .ch3; have := h .ch4; have := h .ch5; have := h .ch6; have := h .ch7
  omega

theorem Budget.heldCount_set_none {c : Chan} {r : Reservation} (hr : b.records.get c = some r)
    (hd : d.records = b.records.set c none) : d.heldCount + 1 = b.heldCount := by
  have h := recordSum_set b.records (fun _ => 1) c none
  rw [hr, ← hd] at h
  exact h

/-- Sheds in number of the records held are enough: committed is then at most the limit (R49, R136). -/
theorem shedWhile_excess (n : Nat) (s : State) (h : s.budget.heldCount ≤ n) :
    (State.shedWhile .budget anyHeld Budget.excess n s).1.budget.committed
      ≤ (State.shedWhile .budget anyHeld Budget.excess n s).1.budget.settings.limit := by
  have nothing (s : State) (hn : ∀ c, s.budget.records.get c = none) : s.budget.committed ≤ s.budget.settings.limit := by
    simp [(recordSums_none hn).1]
  induction n generalizing s with
  | zero =>
    refine nothing s fun c => ?_
    cases hr : s.budget.records.get c with
    | none => rfl
    | some r =>
      have := Budget.heldCount_set_none hr (d := s.budget.drop c) rfl
      omega
  | succ n ih =>
    unfold State.shedWhile
    split
    · split
      · next hf =>
        refine nothing s fun c => ?_
        cases hr : s.budget.records.get c with
        | none => rfl
        | some r => exact absurd ((rankFrom_none hf).2 c c.mem_all r hr) (by simp [anyHeld])
      · next c r hf =>
        obtain ⟨-, -, -, -, -, -, hrec, -⟩ := s.shedChannel_spec c .budget
        have := Budget.heldCount_set_none (Budget.firstInRank_some _ hf).1 hrec
        exact ih _ (by omega)
    · next hm => simpa [Budget.excess] using hm

theorem shedExcess_committed (s : State) : s.shedExcess.1.budget.committed ≤ s.shedExcess.1.budget.settings.limit :=
  shedWhile_excess 8 s s.budget.heldCount_le

/-! The three commands that put other settings into force. -/

theorem shedExcess_within (h : s.budget.slotsInUse ≤ s.budget.settings.slots) : BudgetWithin s.shedExcess.1 :=
  ⟨shedExcess_committed s, moves_keep_slots identify_not_mayReconfigure (shedWhile_moves _ _ _ _) h⟩

/-- An accepted BUDGET_CONFIG (R49): the start slots are looked at before, the limit is met by sheds. -/
theorem applyBudget_within (x : BudgetSettings) (h : s.budget.slotsInUse ≤ x.slots) : BudgetWithin (s.applyBudget x).1 := by
  have hshed : BudgetWithin (s.onBudget fun b => { b with settings := x }).shedExcess.1 := shedExcess_within h
  refine moves_keep_within identify_not_mayReconfigure ?_ hshed
  unfold State.applyBudget
  dsimp only
  refine .trans ?_ (Move.one (.budget _ _ (scanDue_sameHoldings _)))
  refine .trans ?_ (onProfile_moves _ _)
  refine .trans ?_ (Move.one (.budget _ (fun b => b.capBypass.retestBus)
    ((capBypass_sameHoldings _).trans (retestBus_sameHoldings _))))
  exact (postSheds_moves _ _).trans (removeEntries_moves _ fun c hc => .inr (tooLarge_hasEntry hc))

theorem budgetRefusal_none {x : BudgetSettings} {force : Bool} (h : budgetRefusal s x force = none) :
    s.budget.slotsInUse ≤ x.slots := by
  unfold budgetRefusal at h
  split at h
  · cases h
  · split at h
    · cases h
    · omega

theorem serveBudgetConfig_within (id : Nat) (x : BudgetSettings × Bool) (h : BudgetWithin s) :
    BudgetWithin (serveBudgetConfig id x s).1 := by
  unfold serveBudgetConfig
  split
  · exact h
  · exact applyBudget_within x.1 (budgetRefusal_none ‹_›)

/-- A controller restart (R136): the records held hold no slot, and the excess is shed. -/
theorem controllerRestart_within (s : State) (cause : RestartCause) : BudgetWithin (s.controllerRestart cause) := by
  have hslots : s.atRestart.budget.slotsInUse ≤ s.atRestart.budget.settings.slots := by
    have hzero : s.atRestart.budget.slotsInUse = 0 := by
      rw [Budget.slotsInUse, recordSum_eq]
      have h (c : Chan) : ((s.atRestart.budget.records.get c).map (·.slot.toNat)).getD 0 = 0 := by
        rw [show s.atRestart.budget.records.get c = heldRecord (s.atRestart.chan c) from PerChan.get_ofFn ..]
        unfold heldRecord
        split <;> rfl
      simp only [h]
    omega
  have hjoined := moves_keep_slots identify_not_mayReconfigure
    (startJoins_moves (origin := .restart) ((classOrder_nodup _).filter _) fun c hc => restartJoins_off hc) hslots
  have hsheds : ∀ j : State, j.budget.slotsInUse ≤ j.budget.settings.slots → BudgetWithin j.restartSheds.1 := by
    intro j hj
    unfold State.restartSheds
    dsimp only
    split
    · exact moves_keep_within identify_not_mayReconfigure (shedWhile_moves _ _ _ _) (shedExcess_within hj)
    · exact shedExcess_within hj
  unfold State.controllerRestart
  dsimp only
  exact moves_keep_within identify_not_mayReconfigure
    (((post_moves _ _ _).trans (postSheds_moves _ _)).trans (settle_moves _)) (hsheds _ hjoined)

/-- A request command keeps what its owner keeps, where the answer and the end of the event keep it too. -/
theorem dispatch_within {α : Type} {k : ReqKind} {parse : List Byte → Option α} {serve : Nat → α → State → State × Answer}
    (hserve : ∀ id x s, BudgetWithin s → BudgetWithin (serve id x s).1) (h : BudgetWithin s) :
    BudgetWithin (State.dispatch k parse serve s) := by
  unfold State.dispatch
  split
  · exact h
  · refine moves_keep_within identify_not_mayReconfigure (reply_moves _ _ _) ?_
    unfold State.checked
    repeat' split
    all_goals first | exact h | exact hserve _ _ _ h

theorem live_within {f : State → State} (hf : BudgetWithin s → BudgetWithin (f s)) (h : BudgetWithin s)
    (ht : live f s = .next t) : BudgetWithin t := by
  unfold live at ht
  split at ht <;> cases ht
  · exact hf h
  · exact h

theorem takeRestartSignal_within (fate : ReplyFate) (request : Nat) (h : BudgetWithin s) :
    BudgetWithin (s.takeRestartSignal fate request) := by
  unfold State.takeRestartSignal
  dsimp only
  repeat' split
  · exact controllerRestart_within _ _
  · exact h
  · exact h

theorem exec_within (h : BudgetWithin s) (ht : exec i s = .next t) : BudgetWithin t := by
  by_cases hi : MayReconfigure i
  · rcases hi with rfl | rfl | ⟨fate, request, rfl⟩
    · exact live_within (dispatch_within fun id x s => serveBudgetConfig_within id x) h ht
    · refine live_within (fun h => ?_) h ht
      unfold State.resetFilterExpired
      dsimp only
      repeat' split
      · exact controllerRestart_within _ _
      · exact h
      · exact h
    · exact live_within (takeRestartSignal_within fate request) h ht
  · exact moves_keep_within hi (exec_moves ht) h

/-- Settles O8: grants look at headroom and slots, the commands with other settings shed first, and the rest only gives up. -/
theorem stepKeepsBudgetWithin : Obligations.StepKeepsBudgetWithin := by
  intro s t h ht
  rcases step_cases ht with ⟨i, rest, hp, -⟩ | hf
  · rw [show step s = exec i { s with pending := rest } by unfold step; rw [hp]] at ht
    exact exec_within (s := { s with pending := rest }) h ht
  · unfold BudgetWithin
    rwa [show t.budget = s.budget from hf .budget (by simp)]

end Sys2Proof.Machine
end

section
/-! Proofs: the machine as a whole. A step, the passing of time, what a command leaves of the queue of commands, a part without its
supply, and the state after reset. -/

namespace Sys2Proof.Machine

theorem step_front {i : Instr} {rest : List Instr} {s : State} (h : s.pending = i :: rest) :
    step s = exec i { s with pending := rest } := by
  unfold step
  rw [h]

theorem step_empty {s : State} (h : s.pending = []) : step s = .next s.passTime := by
  unfold step
  rw [h]

/-- Settles O1. -/
theorem stepTakesFront : Obligations.StepTakesFront := fun _ _ _ => step_front

/-! The passing of time. -/

theorem State.passTime_unpowered {s : State} (h : s.powered = false) : s.passTime = s := by simp [State.passTime, h]

theorem State.passTime_commands {s : State} {c : Instr} {rest : List Instr} (h : s.powered = true)
    (hc : expiries s ++ transits s = c :: rest) : s.passTime = { s with pending := c :: rest } := by
  simp [State.passTime, h, hc]

theorem State.passTime_quiet {s : State} (h : s.powered = true) (hc : expiries s ++ transits s = []) :
    s.passTime =
      if s.within then
        match s.sampler.round with
        | some stamp => { s with pending := [.roundComplete (Config.roundReadings stamp)] }
        | none => s.boundary
      else s.afterBoundary := by
  simp only [State.passTime, h, hc, if_true] <;> rfl

/-- Settles O2: on an empty queue a step is the passing of time, one case for each of its branches. -/
theorem stepPassesTime : Obligations.StepPassesTime := by
  intro s hp
  rw [step_empty hp]
  refine ⟨fun h => ?_, fun c rest h hc => ?_, fun h hc hw => ?_, fun stamp h hc hw hr => ?_, fun h hc hw hr hu => ?_⟩
  · rw [State.passTime_unpowered h]
  · rw [State.passTime_commands h hc]
  · rw [State.passTime_quiet h hc, hw]
    rfl
  · rw [State.passTime_quiet h hc, hw, hr]
    rfl
  · rw [State.passTime_quiet h hc, hw, hr]
    simp only [if_true, State.boundary, nextUptime, if_pos hu]

/-! The queue of commands, and a part without its supply. -/

theorem move_pending {i : Instr} {s t : State} (m : Move i s t) : t.pending = s.pending := by
  cases m with
  | frame h => exact h .pending (by simp)
  | fault c reason => exact s.faulted_only c reason .pending (by simp)
  | cooldown c => exact s.cooldownEnded_only c .pending (by simp)
  | _ => rfl

/-- Settles O3: every command answers, and no move reaches the queue of commands. -/
theorem commandsKeepQueue : Obligations.CommandsKeepQueue := fun i s => by
  obtain ⟨t, ht⟩ := exec_next i s
  exact ⟨t, ht, (exec_moves ht).keeps (P := fun x => x.pending = s.pending) (fun _ _ m h => (move_pending m).trans h) rfl⟩

/-- Settles O4: every command but those of the supply and the lines is an event of a live part. -/
theorem unsuppliedPartIsInert : Obligations.UnsuppliedPartIsInert := by
  intro i s h h1 h2 h3 h4 h5
  cases i with
  | powerOn => exact absurd rfl h1
  | powerLoss => exact absurd rfl h2
  | resetLineChange l => exact absurd rfl (h3 l)
  | shedLineChange l => exact absurd rfl (h4 l)
  | receiveLineChange l => exact absurd rfl (h5 l)
  | _ => exact congrArg Host.Outcome.next (if_neg (by simp [h]))

/-! The state after reset. -/

theorem reset_chan (c : Chan) : State.reset.chan c = Channel.atPowerOn Config.factoryChannel := by cases c <;> rfl

theorem reset_channelsSound : ChannelsSound State.reset := fun c => by
  rw [reset_chan]
  exact .atPowerOn _

theorem reset_budgetAgrees : BudgetAgrees State.reset := fun c => by
  have hidle : IdleState (State.reset.chan c).state := by cases c <;> exact .inl rfl
  exact (agrees_idle hidle).2 ⟨by cases c <;> rfl, rfl, rfl⟩

theorem reset_budgetWithin : BudgetWithin State.reset := by
  obtain ⟨h1, h2⟩ := recordSums_none (b := State.reset.budget) fun c => PerChan.get_ofFn ..
  exact ⟨by rw [h1]; exact Nat.zero_le _, by rw [h2]; exact Nat.zero_le _⟩

/-- The notice queue after reset holds the RESTARTED notice of the power-on, urgent and not yet offered (R137). -/
theorem reset_queue : ∃ n, State.reset.notices.queue = [n] ∧ n.cls = .urgent ∧ n.delivery = .unsent ∧ n.frameWaiting = false :=
  ⟨_, rfl, rfl, rfl, rfl⟩

theorem reset_attnAgrees : AttnAgrees State.reset := by
  obtain ⟨n, hq, hu, -⟩ := reset_queue
  rw [AttnAgrees, hq]
  exact ⟨fun _ => ⟨n, List.mem_singleton_self n, hu⟩, fun _ => rfl⟩

theorem reset_deliverySound : DeliverySound State.reset := by
  obtain ⟨n, hq, -, hd, hw⟩ := reset_queue
  have hwindow : State.reset.notices.window = [] := by simp [Notices.window, hq, hd]
  refine ⟨by simp [hwindow], ?_, Nat.zero_le _, nofun, fun _ => rfl, fun _ => ⟨hwindow, rfl, rfl, rfl, rfl⟩⟩
  rw [hwindow, hq]
  intro m hm
  obtain rfl := List.mem_singleton.1 hm
  exact ⟨hd, hw⟩

/-- Settles O5. -/
theorem resetIsSound : Obligations.ResetIsSound :=
  ⟨reset_channelsSound, reset_budgetAgrees, reset_budgetWithin, ⟨Nat.zero_le _, .nil, .nil⟩,
    ⟨Nat.zero_le _, Nat.zero_le _, by decide, Nat.zero_le _⟩, reset_attnAgrees, reset_deliverySound⟩

end Sys2Proof.Machine
end

section
/-! Proofs: the lines, the comparator, and the events that reach a channel: faults, timers, grants, signals and samples. -/

namespace Sys2Proof.Machine
variable {s : State} {c : Chan}

@[simp] theorem due_some (e now : Nat) : due (some e) now = decide (e ≤ now) := rfl

/-! The lines (R42, R133, R143). -/

theorem Link.lineChanged_low (l : Link) (expiry : Nat) :
    l.lineChanged .low expiry = { l with breakTimer := if l.breakWait then l.breakTimer else some expiry } := by
  show (if l.breakWait then l else _) = _
  split <;> rfl

/-- Settles O38. -/
theorem linesStartTheirTimers : Obligations.LinesStartTheirTimers := by
  intro s h
  refine ⟨fun l => ?_, fun l => ?_, ?_, fun hr => ?_, fun hr => ?_⟩
  · rw [exec_resetLineChange]
    simp only [State.setResetLine, h, if_true]
    rfl
  · rw [exec_shedLineChange]
    simp only [State.setShedLine, h, if_true]
    rfl
  · rw [exec_receiveLineChange]
    simp only [State.setReceiveLine, if_true]
  · rw [exec_receiveLineChange]
    simp only [State.setReceiveLine, hr, h, reduceCtorEq, if_true, if_false, State.onLink, Link.lineChanged_low]
  · rw [exec_receiveLineChange]
    simp only [State.setReceiveLine, hr, h, reduceCtorEq, if_true, if_false]
    rfl

/-- Settles O39. -/
theorem restartsBegin : Obligations.RestartsBegin := by
  intro s deadline fate request h t x u
  have expired (hf : s.profile.resetFilter = some deadline) (hd : deadline ≤ s.uptime) :
      s.resetFilterExpired
        = if s.profile.resetLevel = .released ∧ s.pins.reset = .asserted then t.controllerRestart .resetLine else t := by
    simp only [State.resetFilterExpired, hf, due_some, decide_eq_true hd, if_true]
    rfl
  have signal (hx : x ∈ s.link.signals) :
      s.takeRestartSignal fate request
        = if s.profile.restartPending = some request then u.controllerRestart .restartRequest else u := if_pos hx
  rw [exec_resetFilterExpiry, exec_restartReplySignal, live_powered h, live_powered h]
  refine ⟨fun hf hd hl hp => ?_, fun hf hd hl => ?_, fun hx hr => ?_, fun hx hr => ?_⟩
  · rw [expired hf hd, if_pos ⟨hl, hp⟩]
  · rw [expired hf hd, if_neg hl]
  · rw [signal hx, if_pos hr]
  · rw [signal hx, if_neg hr]

/-! The comparator (R54, R55). -/

/-- Settles O48. -/
theorem comparatorActs : Obligations.ComparatorActs := by
  intro s c current h k x
  rw [exec_senseCurrentChange, exec_comparatorOperate, live_powered h, live_powered h]
  refine ⟨fun ha => ?_, fun ha => ?_, fun ha hf => ?_, fun hn => ?_⟩
  · have hx : x.senseCurrent current = { x with filterRunning := decide (x.threshold < current) } := if_pos ha
    rw [← hx]
    rfl
  · have hx : x.senseCurrent current = x := if_neg (by simp [ha])
    refine ⟨_, rfl, fun p hp => ?_⟩
    cases p with
    | chan d =>
      by_cases hd : d = c
      · subst hd
        refine (State.onChan_chan_self ..).trans ?_
        show { k with comparator := x.senseCurrent current } = k
        rw [hx]
      · exact State.onChan_chan_ne _ _ hd
    | within => simp at hp
    | _ => rfl
  · rw [if_pos (show (s.chan c).comparator.canOperate = true by simpa [Comparator.canOperate] using ⟨ha, hf⟩)]
    rfl
  · rw [if_neg (show ¬(s.chan c).comparator.canOperate = true by simpa [Comparator.canOperate] using hn)]

/-! Grants (R13, R36). -/

/-- Settles O51. -/
theorem grantsTaken : Obligations.GrantsTaken := by
  intro s c number h k without starts inTransit
  have hpend : s.budget.grantPending c = true ↔ inTransit := Budget.grantPending_iff
  have entered (g : Grant) (cause : ChangeCause) : (s.removeGrant g).enterStarting c cause = starts g cause := by
    simp only [State.enterStarting, State.postChange, State.onBudget_chan, State.onChan_chan_self]
    rfl
  have queueGrant (hg : Grant.queue c number ∈ s.budget.grants) : s.takeQueueGrant c number
      = if k.state = .queued ∧ k.joinNumber = number ∧ s.budget.grantPending c = true then
          (starts (.queue c number) .grant).settle
        else without (.queue c number) := by
    rw [← entered]
    exact if_pos hg
  have cycleGrant (hg : Grant.cycleReturn c number ∈ s.budget.grants) : s.takeCycleGrant c number
      = if k.state = .cycleOff ∧ k.cycleReturnWaiting = true ∧ k.claimNumber = number ∧ s.budget.grantPending c = true then
          (starts (.cycleReturn c number) .cycleReturn).settle
        else without (.cycleReturn c number) := by
    rw [← entered]
    exact if_pos hg
  rw [exec_queueGrant, exec_cycleReturnGrant, live_powered h, live_powered h]
  refine ⟨fun hg h1 h2 h3 => ?_, fun hg hn => ?_, fun hg h1 h2 h3 h4 => ?_, fun hg hn => ?_⟩
  · rw [queueGrant hg, if_pos ⟨h1, h2, hpend.2 h3⟩]
  · rw [queueGrant hg, if_neg (by rwa [hpend])]
  · rw [cycleGrant hg, if_pos ⟨h1, h2, h3, hpend.2 h4⟩]
  · rw [cycleGrant hg, if_neg (by rwa [hpend])]

/-! The signals of a host CYCLE (R17, R18). -/

/-- Settles O52: either fate's command takes the same signal. -/
theorem cycleSignalsTaken : Obligations.CycleSignalsTaken := by
  intro s c request fate h k x i t hx
  have hexec : exec i s = .next (s.takeCycleSignal c request fate) := by
    cases fate
    · exact live_powered h
    · exact live_powered h
  have taken : s.takeCycleSignal c request fate
      = if k.state = .on ∧ k.cyclePending = some request then ((t.enterCycleOff c).postChange c .on .cycleBegin).settle else t :=
    if_pos hx
  rw [hexec, taken]
  refine ⟨fun h1 h2 => ?_, fun hn => by rw [if_neg hn]⟩
  rw [if_pos ⟨h1, h2⟩]
  simp only [State.enterCycleOff, State.postChange, State.onBudget_chan, State.onChan_chan_self]
  rfl

/-! Faults (R56, R57, R59). -/

/-- A fault with its notices: what the channel becomes, what it gives up, and what is posted (R56, R57, R59). -/
theorem State.faultTaken_spec (s : State) (c : Chan) (reason : OffReason) (notice : Channel → NoticeBody) (fault : FaultKind)
    (left : ChState) {x : Channel} (hx : (s.faulted c reason).chan c = x) :
    let k := s.chan c
    let t := s.faulted c reason
    let u := (t.post (some c) (notice (t.chan c))).postExhausted c fault left
    let posted := s.notices.post s.uptime (some c) (notice x)
    OnlyChanges [.chan c, .budget, .notices] s u ∧ u.chan c = x ∧ u.budget = s.budget.drop c
    ∧ u.notices =
        if k.retryCount < k.cfg.retryLimit then posted
        else posted.post s.uptime (some c) (.latched .retriesExhausted (some fault) none left x.retryCount x.tripTotal) := by
  intro k t u posted
  obtain ⟨h1, h2⟩ := s.faulted_spec c reason
  have hstate : x.state = if k.retryCount < k.cfg.retryLimit then .cooldown else .latched := by rw [← hx, h2]
  have hup : t.uptime = s.uptime := s.faulted_only c reason .uptime (by simp)
  have hno : t.notices = s.notices := s.faulted_only c reason .notices (by simp)
  have hframe := State.postExhausted_only (t.post (some c) (notice (t.chan c))) c fault left
  refine ⟨?_, Eq.trans (hframe (.chan c) (by simp)) hx, Eq.trans (hframe .budget (by simp)) h1, ?_⟩
  · exact (((s.faulted_only c reason).append (State.post_only _ _ _)).append hframe).mono (by simp)
  · show (State.postExhausted (t.post (some c) (notice (t.chan c))) c fault left).notices = _
    have ht : t.chan c = x := hx
    unfold State.postExhausted
    rw [State.post_chan, ht, hstate]
    by_cases hr : k.retryCount < k.cfg.retryLimit
    · simp only [hr, if_true, reduceCtorEq, if_false, State.post_notices, hno, hup, posted]
    · simp only [hr, if_false, if_true, State.post_notices, State.post_uptime, hno, hup, posted]

/-- Settles O49: both faults leave what `State.faultTaken_spec` says. -/
theorem faultsHandled : Obligations.FaultsHandled := by
  intro s c h k retries after latchedNotice
  rw [exec_startTimerExpiry, live_powered h]
  refine ⟨fun arming ha hs hn => ?_, fun arming ha hn => ?_, fun deadline hs ht hd => ?_⟩
  · have hchan : (s.removeTrip c arming).chan c = { k with trips := k.trips.erase arming } := State.onChan_chan_self ..
    have hx : ((s.removeTrip c arming).faulted c .trip).chan c = after .trip (k.trips.erase arming) := by
      rw [((s.removeTrip c arming).faulted_spec c .trip).2, hchan]
      rfl
    obtain ⟨k1, k2, k3, k4⟩ :=
      (s.removeTrip c arming).faultTaken_spec c .trip tripNotice .trip ((s.removeTrip c arming).chan c).state hx
    refine ⟨(s.removeTrip c arming).tripped c, ?_, ((s.onChan_only c _).append k1).mono (by simp), k2, k3, k4.trans ?_⟩
    swap
    · simp only [hchan]
      rfl
    rw [exec_tripEvent, live_powered h]
    exact congrArg _ ((if_pos ha).trans (if_pos ⟨hs, hn⟩))
  · rw [exec_tripEvent, live_powered h]
    exact congrArg _ ((if_pos ha).trans (if_neg hn))
  · rw [if_pos ⟨hs, by rw [show (s.chan c).timer = _ from ht]; exact decide_eq_true hd⟩]
    have hx : (s.faulted c .startFail).chan c = after .startFail k.trips := (s.faulted_spec c .startFail).2
    obtain ⟨k1, k2, k3, k4⟩ := s.faultTaken_spec c .startFail startFailNotice .startFail (s.chan c).state hx
    exact ⟨s.startFailed c, rfl, k1, k2, k3, k4⟩

theorem State.onChan_onChan (s : State) (c : Chan) (f g : Channel → Channel) :
    (s.onChan c f).onChan c g = s.onChan c (g ∘ f) := by
  simp only [State.onChan, PerChan.update_update]

/-! The timers of a channel (R20, R61, R63). -/

/-- Settles O50. -/
theorem channelTimersExpire : Obligations.ChannelTimersExpire := by
  intro s c deadline h hd k
  rw [exec_retryWindowExpiry, exec_cycleTimerExpiry, exec_cooldownExpiry, live_powered h, live_powered h, live_powered h]
  have hcool (h1 : k.state = .cooldown) (h2 : k.timer = .cooldown deadline) :
      (s.chan c).state = .cooldown ∧ (s.chan c).timer.cooldownDue s.uptime = true :=
    ⟨h1, by rw [h2]; exact decide_eq_true hd⟩
  have fits (h3 : k.cfg.allowance ≤ s.budget.settings.limit) : s.cooldownEnded c
      = ((s.onChan c fun k => { k with timer := .none }).joinQueue c .retry).postChange c .cooldown .retry := if_pos h3
  have tooLarge (h3 : s.budget.settings.limit < k.cfg.allowance) : s.cooldownEnded c
      = ((s.onChan c fun k => { k with timer := .none }).onChan c fun k => { k with state := .off, lastOff := .budget }).postChange
          c .cooldown .budget := if_neg (Nat.not_le.2 h3)
  refine ⟨fun h1 h2 => ?_, fun h1 h2 => ?_, fun h1 h2 h3 => ?_, fun h1 h2 h3 => ?_⟩
  · rw [if_pos ⟨h1, by rw [h2]; exact decide_eq_true hd⟩]
    rfl
  · refine ⟨s.placeClaim c deadline, ?_, ?_, State.onChan_chan_self .., ?_⟩
    · have expired : s.cycleExpired c = if deadline ≤ s.uptime then (s.placeClaim c deadline).settle else s := by
        simp only [State.cycleExpired, show (s.chan c).state = _ from h1, show (s.chan c).timer = _ from h2]
      rw [expired, if_pos hd]
    · exact (s.onChan_only c _).append (State.onBudget_only _ _)
    · obtain ⟨before, behind, hl, hp, h3, h4⟩ :=
        insertClaim_place { chan := c, expiry := deadline, number := s.budget.nextClaim } s.budget.claims
      refine ⟨before, behind, hl, h3, h4, ?_⟩
      rw [← hp]
      rfl
  · refine ⟨s.cooldownEnded c, by rw [if_pos (hcool h1 h2)], s.cooldownEnded_only c, ?_, ?_, ?_⟩
    · rw [s.cooldownEnded_chan]
      simp only [if_pos (show (s.chan c).cfg.allowance ≤ _ from h3)]
      rfl
    · rw [fits h3, State.postChange, State.post_budget, (State.joinQueue_spec _ c _).2.1, State.onChan_chan_self]
      rfl
    · rw [fits h3, State.postChange, (State.joinQueue_spec _ c _).1, State.onChan_chan_self]
      rfl
  · rw [if_pos (hcool h1 h2), tooLarge h3, State.onChan_onChan]
    simp only [State.postChange, State.onChan_chan_self]
    rfl

end Sys2Proof.Machine
end

section
/-! Proofs: a round at the Sampler and at its consumers: the channels, the Budget Manager, the Watch Unit and the Meter. -/

namespace Sys2Proof.Machine
variable {s : State} {c : Chan}

/-! The Sampler (R69 to R76). -/

theorem Block.next_short {b : Block} {x : Sample} (h : b.count + 1 < b.window) (old : Result) :
    b.resultAfter old x = old ∧ b.next x = b.add x := by
  have hc : (b.add x).complete = false := decide_eq_false (Nat.not_le.2 h)
  simp [Block.resultAfter, Block.next, hc]

theorem Block.next_complete {b : Block} {x : Sample} (h : b.window ≤ b.count + 1) (old : Result) :
    b.resultAfter old x = (b.add x).result x.stamp ∧ b.next x = Block.start b.window := by
  have hc : (b.add x).complete = true := decide_eq_true h
  simp [Block.resultAfter, Block.next, hc]

theorem Sampler.complete_results (p : Sampler) (r : Round) (d : Chan) :
    (p.complete r).results.get d = (p.blocks.get d).resultAfter (p.results.get d) (r.samples.get d) := PerChan.get_ofFn ..

theorem Sampler.complete_blocks (p : Sampler) (r : Round) (d : Chan) :
    (p.complete r).blocks.get d = (p.blocks.get d).next (r.samples.get d) := PerChan.get_ofFn ..

theorem Deliveries.push_toChannels (x : Deliveries) (r : Round) (d : Chan) :
    (x.push r).toChannels.get d = x.toChannels.get d ++ [r.samples.get d] := PerChan.get_ofFn ..

/-- The bus sample of a round (R72). -/
theorem roundOf_bus (stamp : Nat) (r : Readings) :
    (roundOf stamp r).bus =
      { voltage := min r.bus fullVoltage
        total := (Chan.all.map fun c => ((roundOf stamp r).samples.get c).power).sum
        totalOver := decide (∃ c ∈ Chan.all, fullCurrent ≤ (r.chans.get c).current)
        stamp := stamp } := by
  have hover : (Chan.all.any fun c => ((roundOf stamp r).samples.get c).overFlag)
      = decide (∃ c ∈ Chan.all, fullCurrent ≤ (r.chans.get c).current) := by
    rw [Bool.eq_iff_iff, List.any_eq_true, decide_eq_true_iff]
    refine exists_congr fun c => and_congr_right fun _ => ?_
    rw [roundOf_sample]
    exact decide_eq_true_iff
  rw [← hover]
  rfl

/-- Settles O42. -/
theorem roundCompletes : Obligations.RoundCompletes := by
  intro s r stamp h hr amps volts sample
  have hsample (d : Chan) : (roundOf stamp r).samples.get d = sample d := roundOf_sample stamp r d
  rw [exec_roundComplete, live_powered h]
  refine ⟨_, rfl, ?_, ?_⟩ <;> rw [State.completeRound_of_running r hr]
  · intro p hp
    cases p <;> first | rfl | simp at hp
  · refine ⟨rfl, rfl, ?_, rfl, rfl, rfl, fun d => ?_⟩
    · refine (roundOf_bus stamp r).trans ?_
      simp only [hsample]
      rfl
    · intro b
      refine ⟨hsample d, (Deliveries.push_toChannels _ _ d).trans (by rw [hsample]), fun hb => ?_, fun hb => ?_⟩
      · obtain ⟨h1, h2⟩ := Block.next_short (x := sample d) hb (s.sampler.results.get d)
        exact ⟨(Sampler.complete_results _ _ d).trans (by rw [hsample]; exact h1),
          (Sampler.complete_blocks _ _ d).trans (by rw [hsample]; exact h2)⟩
      · obtain ⟨h1, h2⟩ := Block.next_complete (x := sample d) hb (s.sampler.results.get d)
        exact ⟨(Sampler.complete_blocks _ _ d).trans (by rw [hsample]; exact h2),
          (Sampler.complete_results _ _ d).trans (by rw [hsample]; exact h1)⟩

/-! A channel and the Budget Manager (R14, R15, R29, R45, R46). -/

/-- The block event starts, keeps or stops the hold timer (R46). -/
theorem Budget.blockEvent_eq (b : Budget) (expiry : Nat) :
    b.blockEvent expiry =
      { b with holdTimer := if b.settings.limit * 1000 < b.overAverage then some (b.holdTimer.getD expiry) else none } := by
  unfold Budget.blockEvent overloaded
  by_cases h : b.settings.limit * 1000 < b.overAverage <;> simp [h]

theorem Budget.takeSample_short (b : Budget) (x : BusSample) {expiry : Nat} (h : b.overCount + 1 < 16) :
    b.takeSample x expiry =
      { b with
        lastBus := some x.voltage
        busGood := decide (b.settings.busMinimum ≤ x.voltage)
        scanDue := b.scanDue || (decide (b.settings.busMinimum ≤ x.voltage) && !b.busGood)
        overSum := b.overSum + x.total
        overCount := b.overCount + 1 } := if_pos h

theorem Budget.takeSample_sixteenth (b : Budget) (x : BusSample) {expiry : Nat} (h : 16 ≤ b.overCount + 1) :
    b.takeSample x expiry =
      { b with
        lastBus := some x.voltage
        busGood := decide (b.settings.busMinimum ≤ x.voltage)
        scanDue := b.scanDue || (decide (b.settings.busMinimum ≤ x.voltage) && !b.busGood)
        overSum := 0
        overCount := 0
        overAverage := (b.overSum + x.total) / 16
        holdTimer :=
          if b.settings.limit * 1000 < (b.overSum + x.total) / 16 then some (b.holdTimer.getD expiry) else none } :=
  (if_neg (Nat.not_lt.2 h)).trans (Budget.blockEvent_eq _ _)

/-- Settles O44. -/
theorem samplesTaken : Obligations.SamplesTaken := by
  refine ⟨fun s c x rest h hd => ?_, fun s x rest h hd => ?_⟩
  · intro k t up
    rw [exec_roundDeliveryChannel, live_powered h]
    have taken : s.deliverChannel c = (t.takeSample c x).settle := by
      simp only [State.deliverChannel, hd]
      rfl
    have hup : (k.state = .starting ∧ goodLevelMet k.cfg.goodLevel s.budget.settings.busMinimum x.voltage x.bus = true) ↔ up := by
      simp [up, goodLevelMet, busGoodFlag]
    rw [taken]
    refine ⟨fun hn => ?_, fun hu => ?_⟩
    · rw [show t.takeSample c x = t.onChan c fun k => { k with latest := x } from if_neg (by rwa [← hup] at hn)]
      rfl
    · refine ⟨(t.onChan c fun k => { k with latest := x }).enterOn c, ?_, ?_, ?_, ?_, ?_⟩
      · rw [show t.takeSample c x = _ from if_pos (hup.2 hu)]
      · exact ((t.onChan_only c _).append (State.enterOn_only _ c)).mono (by simp)
      · simp only [State.enterOn, State.postChange, State.post_chan, State.onBudget_chan, State.onChan_chan_self]
        rfl
      · rfl
      · simp only [State.enterOn, State.postChange, State.post_notices, State.onBudget_chan, State.onChan_chan_self]
        show Notices.post _ _ _ (.channelState k.state _ _ _) = _
        rw [hu.1]
        rfl
  · intro b good average tested t
    rw [exec_roundDeliveryBudget, live_powered h]
    have taken : s.deliverBudget
        = { t with budget := b.takeSample x (s.uptime + b.settings.overloadHold + 1) }.settle := by
      simp only [State.deliverBudget, hd]
      rfl
    exact ⟨fun hc => by rw [taken, b.takeSample_short x hc], fun hc => by rw [taken, b.takeSample_sixteenth x hc]⟩

/-! The Watch Unit (R86 to R91). -/

theorem watchLevelAfter_high {cfg : WatchConfig} {level : WatchLevel} {average : Nat} {flag : Bool} :
    watchLevelAfter cfg level average flag = .high ↔
      (flag = true ∨ cfg.upper < average) ∨ (level = .high ∧ ¬(flag = false ∧ average ≤ cfg.upper ∧ average < cfg.lower)) := by
  unfold watchLevelAfter
  repeat' split
  all_goals simp_all

theorem watchRecord_free {r : Round} {n : Nat} (h : s.watchAt n = none) : s.watchRecord r n = s := by
  unfold State.watchRecord
  rw [show s.watches.getD n none = none from h]

/-- A record in use takes its value (R86): short of its window it only adds, complete it is judged. -/
theorem watchRecord_used {r : Round} {n : Nat} {w : Watch} (h : s.watchAt n = some w) :
    s.watchRecord r n =
      (let v := w.add (watchValue w.cfg r)
      if w.cfg.window ≤ w.count + 1 then s.judgeWatch n (v.closeBlock r.bus.stamp) else s.setWatch n (some v)) := by
  unfold State.watchRecord
  rw [show s.watches.getD n none = some w from h]
  by_cases hc : w.cfg.window ≤ w.count + 1
  · have hv : (w.add (watchValue w.cfg r)).complete = true := decide_eq_true hc
    simp only [hv, hc, if_true]
  · have hv : (w.add (watchValue w.cfg r)).complete = false := decide_eq_false hc
    simp only [hv, hc, if_false, Bool.false_eq_true]

theorem WatchLevel.low_of_ne_high {x : WatchLevel} (h : x ≠ .high) : x = .low := by
  cases x
  · rfl
  · exact absurd rfl h

section
variable {n : Nat} {w : Watch}

theorem judgeWatch_rise (h : w.level = .low) (hl : watchLevelAfter w.cfg w.level w.last.value w.last.overFlag = .high) :
    s.judgeWatch n w = s.watchRise n w := by
  simp only [State.judgeWatch, hl]
  rw [h]

theorem judgeWatch_fall (h : w.level = .high) (hl : watchLevelAfter w.cfg w.level w.last.value w.last.overFlag ≠ .high) :
    s.judgeWatch n w = s.watchFall n w := by
  simp only [State.judgeWatch, WatchLevel.low_of_ne_high hl]
  rw [h]

theorem judgeWatch_stays (h : watchLevelAfter w.cfg w.level w.last.value w.last.overFlag = w.level) :
    s.judgeWatch n w = s.setWatch n (some w) := by
  simp only [State.judgeWatch, h]
  cases w.level <;> rfl

end

/-- Settles O45. -/
theorem watchesTakeRound : Obligations.WatchesTakeRound := by
  refine ⟨fun s r rest h hd => ?_, fun s r n => ⟨watchRecord_free, fun w hw => ?_⟩⟩
  · rw [exec_roundDeliveryWatch, live_powered h]
    simp only [State.deliverWatch, hd, State.watchRecords_eq_foldl]
  · intro sum overFlag average closed high low
    have fallen (hl : low) : ¬high := by
      rintro (hh | hh)
      · simp [hl.1] at hh
      · exact absurd hl.2.1 (Nat.not_le.2 hh)
    have hclosed : (w.add (watchValue w.cfg r)).closeBlock r.bus.stamp = closed := rfl
    rw [watchRecord_used hw]
    dsimp only
    refine ⟨fun h => ?_, fun h1 h2 h3 => ?_, fun h1 h2 h3 h4 => ?_, fun h1 h2 h3 h4 => ?_, fun h1 h2 h3 h4 => ?_, fun h1 h2 => ?_⟩
    · rw [if_neg (Nat.not_le.2 h)]
      rfl
    all_goals rw [if_pos h1, hclosed]
    · exact judgeWatch_rise h2 (watchLevelAfter_high.2 (.inl h3))
    · rw [judgeWatch_rise (w := closed) h2 (watchLevelAfter_high.2 (.inl h3))]
      simp only [State.watchRise, show closed.cfg.action = .notify from h4]
      rfl
    · rw [judgeWatch_fall (w := closed) h2 fun hh => (watchLevelAfter_high.1 hh).elim (fallen h3) fun hs => hs.2 h3]
      simp only [State.watchFall, Watch.fall, show closed.cfg.mode = .latched from h4]
      rfl
    · rw [judgeWatch_fall (w := closed) h2 fun hh => (watchLevelAfter_high.1 hh).elim (fallen h3) fun hs => hs.2 h3]
      simp only [State.watchFall, Watch.fall, show closed.cfg.mode = .live from h4]
      rfl
    · refine judgeWatch_stays ?_
      rcases h2 with ⟨h2, hn⟩ | ⟨h2, hn⟩
      · exact (watchLevelAfter_high.2 (.inr ⟨h2, hn⟩)).trans h2.symm
      · refine Eq.trans ?_ h2.symm
        refine WatchLevel.low_of_ne_high fun hh => ?_
        rcases watchLevelAfter_high.1 hh with hh | ⟨hh, -⟩
        · exact hn hh
        · rw [show closed.level = .low from h2] at hh
          cases hh

/-! The Meter (R99 to R105). -/

theorem Meter.add_energy (m : Meter) (r : Round) (d : Chan) :
    (m.add r).energy.get d = (m.energy.get d).add (r.samples.get d) := PerChan.get_ofFn ..

theorem Meter.add_peaks (m : Meter) (r : Round) (d : Chan) :
    (m.add r).peaks.get d = (m.peaks.get d).add (r.samples.get d) := PerChan.get_ofFn ..

theorem Accumulator.add_full {a : Accumulator} (h : a.full = true) (x : Sample) : a.add x = a := if_pos h

theorem Accumulator.add_running {a : Accumulator} (h : a.full = false) (x : Sample) :
    a.add x =
      (let total := a.energy + (a.residue + x.power) / 1000
      { energy := if total ≤ 4294967295 then total else total - 4294967296
        rollover := if total ≤ 4294967295 then a.rollover else min 65535 (a.rollover + 1)
        residue := (a.residue + x.power) % 1000
        count := a.count + 1
        full := decide (16777215 ≤ a.count + 1)
        overFlag := a.overFlag || x.overFlag
        periodStart := a.periodStart }) := by
  refine (if_neg (by simp [h])).trans ?_
  by_cases ht : a.energy + (a.residue + x.power) / 1000 ≤ 4294967295
  · simp only [ht, if_neg (Nat.not_lt.2 ht), if_true]
    rfl
  · simp only [ht, if_pos (Nat.not_le.1 ht), if_false]
    rfl

theorem Peak.add_eq (p : Peak) (x : Sample) :
    p.add x =
      (let q := if p.current < x.current then
          { p with current := x.current, currentStamp := x.stamp, currentOver := x.overFlag } else p
      if p.power < x.power then { q with power := x.power, powerStamp := x.stamp, powerOver := x.overFlag } else q) := by
  by_cases hc : p.current < x.current <;> by_cases hp : p.power < x.power <;> simp [Peak.add, hc, hp]

/-- Settles O47. -/
theorem meterTakesRound : Obligations.MeterTakesRound := by
  intro s r rest h hd
  refine ⟨s.meter.add r, ?_, rfl, rfl, fun d => ?_⟩
  · rw [exec_roundDeliveryMeter, live_powered h]
    simp only [State.deliverMeter, hd]
    rfl
  · intro a x p total
    rw [Meter.add_energy, Meter.add_peaks]
    exact ⟨fun hf => Accumulator.add_full hf x, fun hf => Accumulator.add_running hf x, Peak.add_eq p x⟩

end Sys2Proof.Machine
end

section
/-! Proofs: a rise whose action has a target (R64, R88, R89). -/

namespace Sys2Proof.Machine
variable {s : State} {c : Chan}

/-! The OFF request and the LATCH action by the channel's state (R9, R64). -/

theorem State.requestOff_leaves {origin : Origin} (h1 : (s.chan c).state ≠ .off) (h2 : (s.chan c).state ≠ .latched)
    (h3 : (s.chan c).state ≠ .disabled) : s.requestOff c origin = (s.leave c .off (offReasonOf origin), .ok) := by
  rcases s.requestOff_cases c origin with ⟨-, h⟩ | ⟨h, -⟩
  · rcases h with h | h | h <;> contradiction
  · exact h

theorem State.requestOff_off {origin : Origin} (h : (s.chan c).state = .off) : s.requestOff c origin = (s, .already) := by
  simp only [State.requestOff, h]

theorem State.requestOff_latched {origin : Origin} (h : (s.chan c).state = .latched) : s.requestOff c origin = (s, .latched) := by
  simp only [State.requestOff, h]

theorem State.requestOff_disabled {origin : Origin} (h : (s.chan c).state = .disabled) :
    s.requestOff c origin = (s, .notConfigured) := by
  simp only [State.requestOff, h]

/-- The LATCHED notice of a LATCH action (R64). -/
def latchNotice (k : Channel) (record : Nat) : NoticeBody :=
  .latched .watch none (some record) k.state k.retryCount k.tripTotal

theorem State.latchAction_latches {record : Nat} (h1 : (s.chan c).state ≠ .latched) (h2 : (s.chan c).state ≠ .disabled) :
    s.latchAction c record = ((s.leave c .latched .watch).post (some c) (latchNotice (s.chan c) record), .ok) := by
  have hleft := (s.leave_spec c .latched .watch).1
  unfold State.latchAction
  cases hs : (s.chan c).state
  case latched => contradiction
  case disabled => contradiction
  all_goals simp only [hleft, latchNotice, hs]; rfl

theorem State.latchAction_latched {record : Nat} (h : (s.chan c).state = .latched) :
    s.latchAction c record = (s, .latched) := by
  simp only [State.latchAction, h]

theorem State.latchAction_disabled {record : Nat} (h : (s.chan c).state = .disabled) :
    s.latchAction c record = (s, .notConfigured) := by
  simp only [State.latchAction, h]

/-! The rise. -/

/-- A rise whose target has answered: the scan at the end of the channel's part, then the WATCH notice (R88, R89). -/
theorem watchRise_answered {n : Nat} {w : Watch} {u : State} {status : Status} (hc : WatchAction.target? w.cfg.action = some c)
    (hu : u.uptime = s.uptime)
    (ha : (s.setWatch n (some w.rise)).watchAction n w.cfg.action = (u.runScan, some status)) :
    (s.watchRise n w).chan c = u.chan c ∧ (s.watchRise n w).budget = u.budget.runScan s.uptime
    ∧ (s.watchRise n w).notices = u.notices.post s.uptime (some c) (watchNotice n .rise w.rise (some status)) := by
  unfold State.watchRise
  simp only [ha, hc]
  rw [← hu]
  exact ⟨rfl, rfl, rfl⟩

theorem WatchAction.of_target {a : WatchAction} (h : WatchAction.target? a = some c) : a = .switchOff c ∨ a = .latch c := by
  cases a <;> simp_all [WatchAction.target?]

theorem State.watchAction_switchOff (t : State) (n : Nat) (c : Chan) :
    t.watchAction n (.switchOff c) = ((t.requestOff c .watch).1.runScan, some (t.requestOff c .watch).2) := rfl

theorem State.watchAction_latch (t : State) (n : Nat) (c : Chan) :
    t.watchAction n (.latch c) = ((t.latchAction c n).1.runScan, some (t.latchAction c n).2) := rfl

theorem State.watchAction_target_only (t : State) (n : Nat) {a : WatchAction} (h : WatchAction.target? a = some c) :
    OnlyChanges [.chan c, .budget, .notices] t (t.watchAction n a).1 := by
  rcases WatchAction.of_target h with rfl | rfl
  · exact ((t.requestOff_only c .watch).append (State.runScan_only _)).mono (by simp)
  · exact ((t.latchAction_only c n).append (State.runScan_only _)).mono (by simp)

/-- Settles O46: what the target answers is `State.requestOff` or `State.latchAction` by its state. -/
theorem watchRiseLatches : Obligations.WatchRiseLatches := by
  intro s n w c hc k t rises noticed ended refused
  let v := s.setWatch n (some w.rise)
  have hframe := State.watchAction_target_only v n hc
  have refusedBy {status : Status}
      (ha : v.watchAction n w.cfg.action = (v.runScan, some status)) :
      refused status := watchRise_answered (u := v) hc rfl ha
  refine ⟨?_, ?_, fun ha h1 h2 => ?_, fun ha h1 h2 h3 => ?_, fun ha h => ?_, fun h => ?_, fun h => ?_⟩
  · exact (((s.setWatch_only n (some w.rise)).append hframe).append (State.post_only _ _ _)).mono (by simp)
  · exact (State.post_watches _ _ _).trans (hframe .watches (by simp))
  · obtain ⟨k1, k2, k3⟩ := watchRise_answered (s := s) (n := n) (w := w) (status := .ok)
      (u := (v.leave c .latched .watch).post (some c) (latchNotice k n)) hc rfl
      (by rw [ha, State.watchAction_latch, State.latchAction_latches (s := v) h1 h2]; rfl)
    exact ⟨k1.trans (State.leave_spec _ c _ _).1, k2, k3⟩
  · obtain ⟨k1, k2, k3⟩ := watchRise_answered (s := s) (n := n) (w := w) (status := .ok)
      (u := v.leave c .off .watch) hc rfl
      (by rw [ha, State.watchAction_switchOff, State.requestOff_leaves (s := v) h1 h2 h3]; rfl)
    exact ⟨k1.trans (State.leave_spec _ c _ _).1, k2, k3⟩
  · exact refusedBy (by rw [ha, State.watchAction_switchOff, State.requestOff_off (s := v) h])
  · rcases WatchAction.of_target hc with ha | ha
    · exact refusedBy (by rw [ha, State.watchAction_switchOff, State.requestOff_latched (s := v) h])
    · exact refusedBy (by rw [ha, State.watchAction_latch, State.latchAction_latched (s := v) h])
  · rcases WatchAction.of_target hc with ha | ha
    · exact refusedBy (by rw [ha, State.watchAction_switchOff, State.requestOff_disabled (s := v) h])
    · exact refusedBy (by rw [ha, State.watchAction_latch, State.latchAction_disabled (s := v) h])

end Sys2Proof.Machine
end

section
/-! Proofs: the end of an event, the arbiter, a posted notice, and the answer to an entry (R33, R147, R149, R150, R163 to R166). -/

namespace Sys2Proof.Machine
variable (s : State)

/-! The arbiter (R150). -/

/-- What the end of an event may change of the link and the notices: the transmitter, the phase of an entry that waits no more,
and which frames wait. -/
def State.Arbitrated (s t : State) : Prop :=
  t.link = { s.link with tx := t.link.tx, queue := t.link.queue }
  ∧ t.link.queue.map (fun x => { x with phase := ReqPhase.waiting }) = s.link.queue.map (fun x => { x with phase := ReqPhase.waiting })
  ∧ t.link.queue.map (fun x => x.phase == ReqPhase.waiting) = s.link.queue.map (fun x => x.phase == ReqPhase.waiting)
  ∧ t.notices = { s.notices with queue := t.notices.queue }
  ∧ t.notices.queue.map (fun n => { n with frameWaiting := false })
      = s.notices.queue.map (fun n => { n with frameWaiting := false })

theorem State.Arbitrated.refl : s.Arbitrated s := ⟨rfl, rfl, rfl, rfl, rfl⟩

theorem readyReply_some_iff {l : Link} {e : ReqEntry} :
    l.readyReply = some e ↔ ∃ rest, l.queue = e :: rest ∧ e.phase = .answered := by
  unfold Link.readyReply
  cases l.queue with
  | nil => simp
  | cons x rest => by_cases hx : x.phase = .answered <;> simp [hx] <;> grind

theorem readyReply_none_iff {l : Link} : l.readyReply = none ↔ ∀ e rest, l.queue = e :: rest → e.phase ≠ .answered := by
  unfold Link.readyReply
  cases l.queue <;> simp

theorem startReply_arbitrated {e : ReqEntry} (h : s.link.readyReply = some e) : s.Arbitrated s.startReply := by
  obtain ⟨rest, hq, hp⟩ := readyReply_some_iff.1 h
  simp [State.Arbitrated, State.startReply, Link.startReply, hq, hp]

theorem startNotice_arbitrated (n : Notice) : s.Arbitrated (s.startNotice n) := by
  refine ⟨rfl, rfl, rfl, rfl, ?_⟩
  show List.map _ (List.map _ _) = _
  rw [List.map_map]
  refine List.map_congr_left fun x _ => ?_
  simp only [Function.comp]
  split <;> rfl

theorem arbitrate_arbitrated : s.Arbitrated s.arbitrate := by
  rcases s.arbitrate_cases with h | ⟨-, t, ht, ⟨e, he, h⟩ | ⟨n, -, h⟩⟩ <;> rw [h]
  · exact .refl s
  · rcases ht with rfl | rfl
    · exact startReply_arbitrated t he
    · exact startReply_arbitrated { s with draws := s.draws + 1 } he
  · rcases ht with rfl | rfl <;> exact startNotice_arbitrated _ n

/-- Settles O15. -/
theorem settleEndsEvent : Obligations.SettleEndsEvent := by
  intro s
  obtain ⟨h1, h2, h3, h4, h5⟩ := arbitrate_arbitrated s.runScan
  exact ⟨rfl, rfl, s.settle_only, State.arbitrate_only s.runScan .budget (by simp), h1, h2, h3, h4, h5⟩

section
variable {s : State} {e : ReqEntry} {n : Notice}

theorem arbitrate_busy (h : s.link.tx ≠ .idle) : s.arbitrate = s ∧ s.nextFrame = s := by
  unfold State.arbitrate State.nextFrame
  cases ht : s.link.tx with
  | idle => exact absurd ht h
  | reply | notice => exact ⟨rfl, rfl⟩

theorem nextFrame_reply (h : s.link.tx = .idle) (hr : s.link.readyReply = some e) : s.nextFrame = s.startReply := by
  simp only [State.nextFrame, h, hr]

theorem nextFrame_notice (h : s.link.tx = .idle) (hr : s.link.readyReply = none) (hn : s.notices.readyNotice = some n) :
    s.nextFrame = s.startNotice n := by
  simp only [State.nextFrame, h, hr, hn]

theorem arbitrate_reply (h : s.link.tx = .idle) (hr : s.link.readyReply = some e) (hn : s.notices.readyNotice = none) :
    s.arbitrate = s.startReply := by
  simp only [State.arbitrate, h, hr, hn]

theorem arbitrate_notice (h : s.link.tx = .idle) (hr : s.link.readyReply = none) (hn : s.notices.readyNotice = some n) :
    s.arbitrate = s.startNotice n := by
  simp only [State.arbitrate, h, hr, hn]

theorem arbitrate_both (h : s.link.tx = .idle) (hr : s.link.readyReply = some e) (hn : s.notices.readyNotice = some n) :
    s.arbitrate = if Config.replyFirst s.draws then { s with draws := s.draws + 1 }.startReply
      else { s with draws := s.draws + 1 }.startNotice n := by
  simp only [State.arbitrate, h, hr, hn]

theorem arbitrate_nothing (hr : s.link.readyReply = none) (hn : s.notices.readyNotice = none) :
    s.arbitrate = s ∧ s.nextFrame = s := by
  unfold State.arbitrate State.nextFrame
  rw [hr, hn]
  cases s.link.tx <;> exact ⟨rfl, rfl⟩

end

/-- Settles O16: the cases of the arbiter by what is ready. -/
theorem arbiterChooses : Obligations.ArbiterChooses := by
  intro s
  have ready {e : ReqEntry} {rest : List ReqEntry} (hq : s.link.queue = e :: rest) (hp : e.phase = .answered) :
      s.link.readyReply = some e := readyReply_some_iff.2 ⟨rest, hq, hp⟩
  refine ⟨arbitrate_busy, fun e rest h hq hp => ?_, fun n h hq hn => ?_, fun e rest h hq hp hn => ?_,
    fun e rest n h hq hp hn => ?_, fun hq hn => arbitrate_nothing (readyReply_none_iff.2 hq) hn⟩
  · rw [nextFrame_reply h (ready hq hp)]
    simp only [State.startReply, State.onLink, Link.startReply, hq]
  · have hr := readyReply_none_iff.2 hq
    rw [nextFrame_notice h hr hn, arbitrate_notice h hr hn]
    exact ⟨rfl, rfl⟩
  · rw [arbitrate_reply h (ready hq hp) hn, nextFrame_reply h (ready hq hp)]
  · rw [arbitrate_both h (ready hq hp) hn, nextFrame_reply h (ready hq hp)]
    split
    · exact .inl rfl
    · refine .inr ⟨rfl, ?_⟩
      refine OnlyChanges.mono (small := [.draws] ++ [.link, .notices]) ?_ (by simp)
      refine OnlyChanges.append (t := { s with draws := s.draws + 1 }) (fun p hp => ?_) (State.startNotice_only _ n)
      cases p <;> first | rfl | simp at hp

/-- Settles O20. -/
theorem replyAnswersEntry : Obligations.ReplyAnswersEntry := by
  intro s e a
  obtain ⟨h1, h2, h3, h4, h5, h6, h7, h8, h9⟩ := settleEndsEvent (s.onLink fun l => l.reply e a)
  refine ⟨rfl, s.reply_only e a, h4, h6.trans ?_, h7.trans ?_⟩
  · show List.map _ (List.map _ _) = _
    rw [List.map_map]
    refine List.map_congr_left fun x _ => ?_
    simp only [Function.comp]
    split <;> rfl
  · show List.map _ (List.map _ _) = _
    rw [List.map_map]
    refine List.map_congr_left fun x _ => ?_
    by_cases hx : x.id = e.id <;> simp [hx]

/-! A posted notice (R163 to R166, R170). -/

section
variable {u : Notices} {now : Nat} {chan : Option Chan} {body : NoticeBody}

/-- The window filled, in OPEN and not stalled (R166). -/
def Notices.filled (u : Notices) (q : List Notice) : List Notice :=
  if u.sessionOpen = true ∧ u.stalled = false then offerUnsent (4 - windowCount q) q else q

theorem Notices.fillWindow_queue (u : Notices) : u.fillWindow.queue = u.filled u.queue := by
  unfold Notices.fillWindow Notices.filled
  cases u.sessionOpen <;> cases u.stalled <;> rfl

/-- Filling keeps everything of a notice but its delivery. -/
theorem Notices.filled_map {α : Type} (u : Notices) (f : Notice → α)
    (h : ∀ (n : Notice) (d : Delivery) (w : Bool), f { n with delivery := d, frameWaiting := w } = f n) (q : List Notice) :
    (u.filled q).map f = q.map f := by
  unfold Notices.filled
  split
  · exact offerUnsent_map f h _ q
  · rfl

theorem Notices.post_subscribed (h : u.subscriptions.getLsbD body.kind.index = true) :
    u.post now chan body = ((u.meetQueue now chan body).fillWindow).setAttn := if_pos h

/-- What a subscribed notice leaves as the queue: what `meetQueue` leaves, with the window filled. -/
theorem Notices.post_queue (h : u.subscriptions.getLsbD body.kind.index = true) :
    (u.post now chan body).queue = u.filled (u.meetQueue now chan body).queue := by
  rw [Notices.post_subscribed h]
  refine (Notices.fillWindow_queue _).trans ?_
  rw [Notices.meetQueue_frame]
  rfl

theorem Notices.post_numbers (h : u.subscriptions.getLsbD body.kind.index = true) :
    (u.post now chan body).nextNseq = (u.meetQueue now chan body).nextNseq
    ∧ (u.post now chan body).lost = (u.meetQueue now chan body).lost := by
  rw [Notices.post_subscribed h]
  show (Notices.fillWindow _).nextNseq = _ ∧ (Notices.fillWindow _).lost = _
  rw [Notices.fillWindow_eq]
  exact ⟨rfl, rfl⟩

/-- A queue of fewer than 24 is joined (R165). -/
theorem Notices.meetQueue_room (h : u.queue.length < 24) : u.meetQueue now chan body = u.join now chan body := if_pos h

/-- A full queue makes room for an urgent notice (R165). -/
theorem Notices.meetQueue_evicts (h : u.queue.length = 24) (hu : body.cls = .urgent) {n : Notice} {before behind : List Notice}
    (hq : u.queue = before ++ n :: behind) (hn : n.evictable = true) (hb : ∀ x ∈ before, ¬x.evictable = true) :
    u.meetQueue now chan body
      = { u with queue := before ++ behind, lost := satAdd 255 u.lost 1 }.join now chan body := by
  have hany : u.queue.any Notice.evictable = true := by simp [hq, hn]
  have herase : u.queue.eraseP Notice.evictable = before ++ behind := by
    rw [hq, List.eraseP_append_right _ hb, List.eraseP_cons_of_pos hn]
  unfold Notices.meetQueue
  rw [if_neg (by omega), if_pos ⟨hu, hany⟩, herase]

/-- A full queue that makes no room drops the notice, and counts it (R165). -/
theorem Notices.meetQueue_drops (h : u.queue.length = 24)
    (hn : body.cls = .routine ∨ ∀ x ∈ u.queue, ¬x.evictable = true) :
    u.meetQueue now chan body = { u with lost := satAdd 255 u.lost 1 } := by
  unfold Notices.meetQueue
  rw [if_neg (by omega), if_neg]
  rintro ⟨hu, hany⟩
  obtain ⟨x, hx, he⟩ := List.any_eq_true.1 hany
  rcases hn with hn | hn
  · rw [hn] at hu
    cases hu
  · exact hn x hx he

end

theorem Notice.evictable_iff (n : Notice) : n.evictable = true ↔ n.cls = .routine ∧ n.delivery = .unsent := by
  simp [Notice.evictable]

/-- Settles O19: the three cases of `Notices.meetQueue`, then the window and ATTN. -/
theorem postMeetsQueue : Obligations.PostMeetsQueue := by
  intro u now chan body kept filled new v
  have hkept (q : List Notice) : kept (u.filled q) = kept q := u.filled_map _ (fun _ _ _ => rfl) q
  have hqueue (hs : u.subscriptions.getLsbD body.kind.index = true) :
      v.queue = filled (u.meetQueue now chan body).queue ∧ kept v.queue = kept (u.meetQueue now chan body).queue := by
    rw [show v.queue = _ from Notices.post_queue hs]
    exact ⟨rfl, hkept _⟩
  refine ⟨u.post_frame now chan body, u.post_unsubscribed now chan body, fun hs => ?_, fun hs hl => ?_,
    fun before n behind hs hl hu hq hc hd hb => ?_, fun hs hl hn => ?_⟩
  · rw [show v = _ from Notices.post_subscribed hs]
    exact attnLevel_asserted _
  all_goals
    obtain ⟨h1, h2⟩ := hqueue hs
    obtain ⟨h3, h4⟩ := Notices.post_numbers (now := now) (chan := chan) hs
  · rw [Notices.meetQueue_room hl] at h1 h2 h3 h4
    exact ⟨h1, h2.trans List.map_append, h3, h4⟩
  · rw [Notices.meetQueue_evicts hl hu hq ((Notice.evictable_iff n).2 ⟨hc, hd⟩)
      fun x hx => by rw [Notice.evictable_iff]; exact hb x hx] at h1 h2 h3 h4
    exact ⟨h1, h2.trans List.map_append, h3, h4⟩
  · rw [Notices.meetQueue_drops hl (hn.imp_right fun hn x hx => by rw [Notice.evictable_iff]; exact hn x hx)] at h1 h2 h3 h4
    exact ⟨h1, h2, h3, h4⟩

end Sys2Proof.Machine
end

section
/-! Proofs: the checks of the dispatch order (R148, R174). -/

namespace Sys2Proof.Machine
variable {s : State} {e : ReqEntry}

/-- The command of a request kind dispatches it with a parser that accepts what `fieldsInRange` accepts. -/
theorem requestCommand_dispatches (k : ReqKind) :
    ∃ (α : Type) (parse : List Byte → Option α) (serve : Nat → α → State → State × Answer),
      (∀ s, exec (requestCommand k) s = live (State.dispatch k parse serve) s)
      ∧ ∀ p, fieldsInRange k p = (parse p).isSome := by
  cases k <;> exact ⟨_, _, _, fun _ => rfl, fun _ => rfl⟩

/-- Settles O21: each failing check is one of `State.checked`'s. -/
theorem dispatchChecks : Obligations.DispatchChecks := by
  intro s e h ho hw
  refine ⟨fun hk => ?_, fun k hk => ?_⟩
  · rw [exec_unknownKind, live_powered h]
    simp only [State.dispatchUnknown, ho, hk, if_true]
  · obtain ⟨α, parse, serve, hexec, hparse⟩ := requestCommand_dispatches k
    rw [hexec, hparse, live_powered h, State.dispatch_some (State.dispatchable_some ho hk hw)]
    refine ⟨fun hl => ?_, fun hl hn hs => ?_, fun hl hs hp => ?_⟩
    · rw [State.checked_badLength hl]
    · rw [State.checked_noSession (s := s.afterBoundary) hl hn hs]
    · rw [State.checked_badField (s := s.afterBoundary) hl hs (by simpa using hp)]

end Sys2Proof.Machine
end

section
/-! Proofs: the requests of the Link Interface, the Meter, the Watch Unit and the Profile Store, and the queries. Each owner's answer is
said once, as what its `serve` function gives; `exec_served` makes it the request's. -/

namespace Sys2Proof.Machine
variable {s t : State} {e : ReqEntry} {a : Answer}

/-- A request that is dispatched with its fields in range gets what its owner answers. -/
theorem exec_served {α : Type} {i : Instr} {k : ReqKind} {parse : List Byte → Option α}
    {serve : Nat → α → State → State × Answer} {x : α} (hexec : ∀ s, exec i s = live (State.dispatch k parse serve) s)
    (h : Dispatches s k e) (hp : parse e.payload = some x) (hs : serve e.id x s.afterBoundary = (t, a)) :
    exec i s = .next (t.reply e a) := by
  rw [hexec, live_dispatch h hp, hs]

theorem parseNothing_some (p : List Byte) : parseNothing p = some () := rfl

theorem Profile.busy_saving {p : Profile} (h : p.saveState ≠ .idle) : p.busy = true := by simp [Profile.busy, h]

theorem Profile.busy_idle {p : Profile} (h : p.saveState = .idle) : p.busy = false := by simp [Profile.busy, h]

/-! The queries (R24, R50, R79, R95, R119, R131, R155, R161). -/

/-- Settles O22. -/
theorem queriesAnswer : Obligations.QueriesAnswer := by
  intro s e pingFields
  refine ⟨fun h => exec_served exec_identify h (parseNothing_some _) rfl, fun cs h hp => exec_served exec_channelQuery h hp rfl,
    fun h => exec_served exec_budgetQuery h (parseNothing_some _) rfl, fun cs h hp => exec_served exec_measureRead h hp rfl,
    fun ns h hp => exec_served exec_watchQuery h hp rfl, fun n h hp => exec_served exec_schedList h hp rfl,
    fun h => exec_served exec_profileQuery h (parseNothing_some _) rfl, fun h ho => ?_, fun h hc => ?_⟩
  · exact exec_served exec_ping h (parseNothing_some _) (if_pos ho)
  · exact exec_served exec_ping h (parseNothing_some _) (if_neg (by simp [hc]))

/-! LINK_CONFIG and SUBSCRIBE (R139, R163). -/

/-- Settles O25. -/
theorem linkConfigAndSubscribeSet : Obligations.LinkConfigAndSubscribeSet := by
  intro s e
  refine ⟨fun rate h hp => ⟨fun hb => ?_, fun hi => ?_⟩, fun set h hp => ⟨fun hb => ?_, fun hi => ?_⟩⟩
  · exact exec_served exec_linkConfig h hp (if_pos (Profile.busy_saving hb))
  · exact exec_served exec_linkConfig h hp (if_neg (by simpa using Profile.busy_idle hi))
  · exact exec_served exec_subscribe h hp (if_pos (Profile.busy_saving hb))
  · exact exec_served exec_subscribe h hp (if_neg (by simpa using Profile.busy_idle hi))

/-! The Meter (R101 to R103, R106, R107). -/

/-- The snapshot stamp as reported, with the counter of free values (R102; log 35). -/
theorem State.reportSnapshot_eq (s : State) :
    s.reportSnapshot =
      ({ s with draws := if s.meter.snapshot = none then s.draws + 1 else s.draws },
        s.meter.snapshot.getD (Config.invalidSnapshot s.draws).toNat) := by
  unfold State.reportSnapshot
  cases s.meter.snapshot <;> rfl

theorem Meter.restart_energy (m : Meter) (cs : List Chan) (c : Chan) :
    (m.restart cs).energy.get c = if cs.contains c then Accumulator.start m.nextPeriod else m.energy.get c :=
  PerChan.get_ofFn ..

theorem Meter.clear_peaks (m : Meter) (cs : List Chan) (bus : Bool) (c : Chan) :
    (m.clear cs bus).peaks.get c = if cs.contains c then Peak.start m.nextPeriod else m.peaks.get c :=
  PerChan.get_ofFn ..

/-- Settles O24. -/
theorem meterReads : Obligations.MeterReads := by
  intro s e stamp drawn start
  have hstamp : stamp = s.meter.snapshot.getD (Config.invalidSnapshot s.draws).toNat := by
    show (match s.meter.snapshot with | some x => x | none => _) = _
    cases s.meter.snapshot <;> rfl
  have hstart : s.meter.nextPeriod = start := rfl
  refine ⟨fun cs restart h hp => ?_, fun cs bus clear h hp => ?_⟩
  · refine ⟨if restart then s.meter.restart cs else s.meter, exec_served exec_energyRead h hp ?_, ?_, fun c => ?_⟩
    · rw [hstamp]
      simp only [serveEnergyRead, State.reportSnapshot_eq]
      cases restart <;> rfl
    · cases restart <;> rfl
    · cases restart
      · rfl
      · refine (Meter.restart_energy _ _ _).trans ?_
        simp only [hstart, List.contains_iff_mem, true_and]
        rfl
  · refine ⟨if clear then s.meter.clear cs bus else s.meter, exec_served exec_peakRead h hp ?_, ?_, ?_, ?_, fun c => ?_⟩
    · rw [hstamp]
      simp only [servePeakRead, State.reportSnapshot_eq]
      cases clear <;> rfl
    · cases clear <;> rfl
    · cases clear <;> rfl
    · cases clear <;> cases bus <;> rfl
    · cases clear
      · rfl
      · refine (Meter.clear_peaks _ _ _ _).trans ?_
        simp only [hstart, List.contains_iff_mem, true_and]
        rfl

/-! The Watch Unit (R92 to R94). -/

theorem serveWatchDelete_free {id n : Nat} (hb : s.profile.busy = false) (hw : s.watchAt n = none) :
    serveWatchDelete id n s = (s, answer .already (be 1 n)) := by
  simp only [serveWatchDelete, hb, hw, Bool.false_eq_true, if_false]

theorem serveWatchDelete_used {id n : Nat} {w : Watch} (hb : s.profile.busy = false) (hw : s.watchAt n = some w) :
    serveWatchDelete id n s = ((s.setWatch n none).markUnsaved, answer .ok (be 1 n)) := by
  simp only [serveWatchDelete, hb, hw, Bool.false_eq_true, if_false]

theorem serveWatchClear_free {id n : Nat} (hw : s.watchAt n = none) :
    serveWatchClear id n s = (s, answer .noSuchWatch (be 1 0 ++ be 1 0)) := by
  simp only [serveWatchClear, hw]

theorem serveWatchClear_used {id n : Nat} {w : Watch} (hw : s.watchAt n = some w) :
    serveWatchClear id n s =
      (s.setWatch n (some w.clear), answer .ok (be 1 n ++ be 1 (flagBits [w.level == .high, w.clear.raised]))) := by
  simp only [serveWatchClear, hw]

theorem Watch.clear_eq (w : Watch) :
    w.clear = { w with raised := decide (w.cfg.mode = .live) && decide (w.level = WatchLevel.high) } := by
  simp only [Watch.clear, raisedAfterClear, Bool.decide_and]

/-- Settles O33. -/
theorem watchRequestsWrite : Obligations.WatchRequestsWrite := by
  intro s e n
  refine ⟨fun w h hp => ⟨fun hb => ?_, fun hi => ?_⟩, fun h hp => ⟨fun hb => ?_, fun hi hw => ?_, fun hi hw => ?_⟩,
    fun h hp => ⟨fun hw => ?_, fun w hw => ?_⟩⟩
  · exact exec_served exec_watchSet h hp (if_pos (Profile.busy_saving hb))
  · exact exec_served exec_watchSet h hp (if_neg (by simpa using Profile.busy_idle hi))
  · exact exec_served exec_watchDelete h hp (if_pos (Profile.busy_saving hb))
  · exact exec_served exec_watchDelete h hp (serveWatchDelete_free (Profile.busy_idle hi) hw)
  · obtain ⟨w, hw⟩ := Option.ne_none_iff_exists'.1 hw
    exact exec_served exec_watchDelete h hp (serveWatchDelete_used (Profile.busy_idle hi) hw)
  · exact exec_served exec_watchClear h hp (serveWatchClear_free hw)
  · rw [exec_served exec_watchClear h hp (serveWatchClear_used hw), Watch.clear_eq]
    rfl

/-! The Profile Store (R127, R134). -/

theorem serveProfileSave_refused {id : Nat} {status : Status} (h : saveRefusal s.profile = some status) :
    serveProfileSave id () s = (s, answer status (be 1 (SaveState.code s.profile.saveState) ++ be 1 0 ++ be 4 0)) := by
  simp only [serveProfileSave, h]

theorem serveProfileSave_accepted {id : Nat} (h : saveRefusal s.profile = none) :
    serveProfileSave id () s =
      (let t := s.onProfile fun p => p.beginSave s.workingConfig
      (t, answer .started
        (be 1 (SaveState.code t.profile.saveState) ++ be 1 (copyCode? t.profile.target)
          ++ be 4 t.profile.writtenGeneration))) := by
  simp only [serveProfileSave, h]

theorem saveRefusal_saving {p : Profile} (h : p.saveState ≠ .idle) : saveRefusal p = some .profileBusy :=
  if_pos (Profile.busy_saving h)

theorem saveRefusal_idle {p : Profile} (h : p.saveState = .idle) :
    saveRefusal p = if p.restartPending.isSome then some .busy else none :=
  if_neg (by simp [Profile.busy_idle h])

theorem saveTarget_eq (current : Option CopyId) :
    saveTarget current = if current = some .a then CopyId.b else CopyId.a := by
  rcases current with _ | _ | _ <;> rfl

/-- What an accepted save sets and what it leaves of the Profile Store (R127). -/
theorem Profile.beginSave_spec (p : Profile) (w : WorkingConfig) :
    let k := saveTarget p.current
    let q := p.beginSave w
    (q.saveState = .writing ∧ q.target = some k ∧ q.capture = some w ∧ q.store k = none
      ∧ q.record k = { valid := false, generation := 0 } ∧ q.writeFailed = false ∧ q.newGeneration = p.nextGeneration)
    ∧ (q.current = p.current ∧ q.unsaved = p.unsaved ∧ q.outcome = p.outcome ∧ q.source = p.source
      ∧ q.restartPending = p.restartPending ∧ q.resetLevel = p.resetLevel ∧ q.resetFilter = p.resetFilter)
    ∧ ∀ other, other ≠ k → q.store other = p.store other ∧ q.record other = p.record other := by
  unfold Profile.beginSave
  dsimp only
  generalize saveTarget p.current = k
  refine ⟨?_, ?_, fun other ho => ?_⟩
  · cases k <;> exact ⟨rfl, rfl, rfl, rfl, rfl, rfl, rfl⟩
  · cases k <;> exact ⟨rfl, rfl, rfl, rfl, rfl, rfl, rfl⟩
  · cases k <;> cases other <;> first | exact absurd rfl ho | exact ⟨rfl, rfl⟩

theorem serveRestart_idle {id : Nat} (hi : s.profile.saveState = .idle) :
    serveRestart id () s =
      if s.profile.restartPending.isSome then (s, answer .already [])
      else (s.onProfile fun p => { p with restartPending := some id }, { status := .ok, fields := [], awaiting := .restart }) :=
  if_neg (by simp [Profile.busy_idle hi])

/-- Settles O36. -/
theorem saveAndRestartBegin : Obligations.SaveAndRestartBegin := by
  intro s e
  refine ⟨fun h => ⟨fun hb => ?_, fun hi hr => ?_, fun hi hr => ?_⟩, fun h => ⟨fun hb => ?_, fun hi hr => ?_, fun hi hr => ?_⟩⟩
  · exact exec_served exec_profileSave h (parseNothing_some _) (serveProfileSave_refused (saveRefusal_saving hb))
  · have hrefused : saveRefusal s.profile = some .busy := by
      rw [saveRefusal_idle hi, if_pos (Option.isSome_iff_ne_none.2 hr)]
    rw [exec_served exec_profileSave h (parseNothing_some _) (serveProfileSave_refused hrefused), State.afterBoundary_profile, hi]
    rfl
  · have haccepted : saveRefusal s.profile = none := by
      rw [saveRefusal_idle hi, hr]
      rfl
    obtain ⟨⟨h1, h2, h3, h4, h5, h6, h7⟩, ⟨k1, k2, k3, k4, k5, k6, k7⟩, hother⟩ := s.profile.beginSave_spec s.workingConfig
    rw [saveTarget_eq] at h2 h4 h5 hother
    refine ⟨s.afterBoundary.onProfile fun p => p.beginSave s.workingConfig, ?_, ?_, h1, h2, h3, h4, h5, k1, k2, k3, k4,
      k5.trans hr, h6, k6, k7, hother, h7.trans rfl⟩
    · rw [exec_served exec_profileSave h (parseNothing_some _) (serveProfileSave_accepted haccepted)]
      simp only [State.onProfile_profile, State.afterBoundary_profile,
        show s.afterBoundary.workingConfig = s.workingConfig from rfl, h1, h2]
      rfl
    · exact (s.afterBoundary_only.append (State.onProfile_only _ _)).mono (by simp)
  · exact exec_served exec_restart h (parseNothing_some _) (if_pos (Profile.busy_saving hb))
  · exact exec_served exec_restart h (parseNothing_some _)
      ((serveRestart_idle (s := s.afterBoundary) hi).trans (if_pos (Option.isSome_iff_ne_none.2 hr)))
  · exact exec_served exec_restart h (parseNothing_some _)
      ((serveRestart_idle (s := s.afterBoundary) hi).trans (if_neg (by simp [hr])))

end Sys2Proof.Machine
end

section
/-! Proofs: the requests of the session (R158, R161, R162, R167) and of a channel (R8 to R11, R22, R23). -/

namespace Sys2Proof.Machine
variable {s : State} {e : ReqEntry} {c : Chan}

/-! The session. -/

theorem Dispatches.sessionOpen {k : ReqKind} (h : Dispatches s k e) (hn : k.needsSession e.payload = true) :
    s.notices.sessionOpen = true := by
  obtain ⟨-, -, -, -, -, hs⟩ := h
  exact hs hn

theorem oldestNseq_eq (u : Notices) :
    u.oldestNseq = match u.queue with | [] => u.nextNseq | n :: _ => n.nseq := by
  unfold Notices.oldestNseq
  cases u.queue <;> rfl

/-- Filling the window leaves the oldest notice's number as it was (R158, R167). -/
theorem oldestNseq_fillWindow (u : Notices) : u.fillWindow.oldestNseq = u.oldestNseq := by
  have hmap : u.fillWindow.queue.map (·.nseq) = u.queue.map (·.nseq) := by
    rw [Notices.fillWindow_queue]
    exact u.filled_map _ (fun _ _ _ => rfl) _
  have hnext : u.fillWindow.nextNseq = u.nextNseq := by rw [u.fillWindow_eq]
  unfold Notices.oldestNseq
  rw [hnext]
  cases hq : u.queue <;> cases hf : u.fillWindow.queue <;> simp_all

/-- Settles O26. -/
theorem sessionOpensAndCloses : Obligations.SessionOpensAndCloses := by
  intro s e
  refine ⟨fun k h hp ho => ?_, fun k h hp hc => ?_, fun h => ?_⟩
  · exact exec_served exec_sessionOpen h hp (if_pos ho)
  · rw [exec_served exec_sessionOpen h hp (if_neg (by simp [hc]))]
    let u : Notices := { s.notices with
      sessionOpen := true, keepalive := k, keepaliveTimer := if k = 0 then none else some (s.uptime + k + 1)
      openedStamp := s.uptime, resend := 0, stalled := false }
    have holdest : u.fillWindow.oldestNseq = match s.notices.queue with | [] => s.notices.nextNseq | n :: _ => n.nseq :=
      (oldestNseq_fillWindow u).trans (oldestNseq_eq u)
    have hlength : u.fillWindow.queue.length = s.notices.queue.length := u.fillWindow_length
    show Host.Outcome.next (State.reply _ e (answer .ok (be 2 u.fillWindow.oldestNseq ++ be 1 u.fillWindow.queue.length
      ++ be 1 s.notices.lost ++ be 6 s.uptime))) = _
    rw [holdest, hlength]
    rfl
  · refine ⟨s.afterBoundary.endSession, exec_served exec_sessionClose h (parseNothing_some _) rfl, ?_, rfl, ?_⟩
    · exact (s.afterBoundary_only.append (State.endSession_only _)).mono (by simp)
    · show { s.link with tx := s.link.tx.markStale } = _
      cases s.link.tx <;> rfl

/-- The first notice of an NSEQ, IN_FLIGHT, is acknowledged with every older one (R167). -/
theorem acknowledged_append {nseq : Nat} {older rest : List Notice} {n : Notice} (ho : ∀ x ∈ older, x.nseq ≠ nseq)
    (hn : n.nseq = nseq) (hd : n.delivery = .inFlight) :
    acknowledged nseq (older ++ n :: rest) = some (older.length + 1, rest) := by
  induction older with
  | nil => simp [acknowledged, hn, hd]
  | cons x older ih => simp [acknowledged, ho x (by simp), ih fun y hy => ho y (by simp [hy])]

theorem acknowledged_none {nseq : Nat} {q : List Notice} (h : ∀ x ∈ q, ¬(x.nseq = nseq ∧ x.delivery = .inFlight)) :
    acknowledged nseq q = none := by
  induction q with
  | nil => rfl
  | cons x q ih =>
    have hx := h x (by simp)
    have hrest := ih fun y hy => h y (by simp [hy])
    by_cases hn : x.nseq = nseq <;> simp_all [acknowledged]

theorem serveNoticeAck_none {id nseq : Nat} (h : acknowledged nseq s.notices.queue = none) :
    serveNoticeAck id nseq s = (s, answer .notInFlight (be 1 0 ++ be 2 s.notices.oldestNseq ++ be 1 s.notices.queue.length)) := by
  simp only [serveNoticeAck, h]

theorem serveNoticeAck_some {id nseq removed : Nat} {rest : List Notice}
    (h : acknowledged nseq s.notices.queue = some (removed, rest)) :
    serveNoticeAck id nseq s =
      (let t := s.onNotices fun u => u.acknowledge rest (s.deadline ackInterval)
      (t, answer .ok (be 1 removed ++ be 2 t.notices.oldestNseq ++ be 1 t.notices.queue.length))) := by
  simp only [serveNoticeAck, h]

/-- What an acknowledgement leaves (R167, R168, R170). -/
theorem Notices.acknowledge_spec {u : Notices} {rest : List Notice} {ackExpiry : Nat} (ho : u.sessionOpen = true) :
    let v := u.acknowledge rest ackExpiry
    v.oldestNseq = (match rest with | [] => u.nextNseq | n :: _ => n.nseq) ∧ v.queue.length = rest.length ∧ v.resend = 0
    ∧ v.ackTimer = (if u.stalled = false ∧ ∃ x ∈ rest, x.delivery = .inFlight then some ackExpiry else none)
    ∧ v.stalled = u.stalled
    ∧ v.queue = (if u.stalled = true then rest else offerUnsent (4 - windowCount rest) rest)
    ∧ (v.attn = .asserted ↔ ∃ x ∈ rest, x.cls = .urgent) := by
  intro v
  let w : Notices := { u with
    queue := rest, resend := 0
    ackTimer := if !u.stalled && rest.any (fun n => n.delivery == Delivery.inFlight) then some ackExpiry else none }
  have hw : v = w.fillWindow.setAttn := rfl
  have hframe := w.fillWindow_eq
  have hqueue : v.queue = if u.stalled = true then rest else offerUnsent (4 - windowCount rest) rest := by
    rw [hw, show w.fillWindow.setAttn.queue = w.fillWindow.queue from rfl, w.fillWindow_queue]
    show (if u.sessionOpen = true ∧ u.stalled = false then _ else _) = _
    rw [ho]
    cases u.stalled <;> rfl
  refine ⟨(oldestNseq_fillWindow w).trans (oldestNseq_eq w), ?_, ?_, ?_, ?_, hqueue, ?_⟩
  · exact w.fillWindow_length
  · rw [hw, hframe]; rfl
  · rw [hw, hframe]
    show (if _ then _ else _) = _
    cases u.stalled <;> simp
  · rw [hw, hframe]; rfl
  · rw [← attnLevel_asserted, show v.attn = attnLevel v.queue from rfl, hqueue]
    split
    · rfl
    · rw [attnLevel_offerUnsent]

/-- Settles O27. -/
theorem noticeAckRemoves : Obligations.NoticeAckRemoves := by
  intro s e nseq h hp
  refine ⟨fun older n rest hq ho hn hd => ?_, fun hno => ?_⟩
  · have hack : acknowledged nseq s.notices.queue = some (older.length + 1, rest) := hq ▸ acknowledged_append ho hn hd
    obtain ⟨h1, h2, h3, h4, h5, h6, h7⟩ :=
      Notices.acknowledge_spec (rest := rest) (ackExpiry := s.uptime + 201) (h.sessionOpen rfl)
    refine ⟨s.afterBoundary.onNotices fun u => u.acknowledge rest (s.uptime + 201), ?_, ?_, h3, h4, h5, h6, h7⟩
    · rw [exec_served exec_noticeAck h hp (serveNoticeAck_some (s := s.afterBoundary) hack)]
      show Host.Outcome.next (State.reply _ e (answer .ok (_ ++ be 2 (s.notices.acknowledge rest (s.uptime + 201)).oldestNseq
        ++ be 1 (s.notices.acknowledge rest (s.uptime + 201)).queue.length))) = _
      rw [h1, h2]
      rfl
    · exact (s.afterBoundary_only.append (State.onNotices_only _ _)).mono (by simp)
  · rw [exec_served exec_noticeAck h hp (serveNoticeAck_none (s := s.afterBoundary) (acknowledged_none hno)), oldestNseq_eq]
    rfl

/-! The channel requests. -/

/-- The table of R8: what an ON request answers by the channel's state. -/
theorem State.requestOn_outcomes (s : State) (c : Chan) (origin : Origin) :
    let k := s.chan c
    let answers (st : Status) : Prop := s.requestOn c origin = (s, st)
    (k.state = .off → k.cfg.allowance ≤ s.budget.settings.limit → s.requestOn c origin = (s.joinQueue c origin, .ok))
    ∧ (k.state = .off → s.budget.settings.limit < k.cfg.allowance → answers .tooLarge)
    ∧ (k.state = .queued ∨ k.state = .starting → answers .already)
    ∧ (k.state = .on → k.cyclePending = none → answers .already) ∧ (k.state = .on → k.cyclePending ≠ none → answers .busy)
    ∧ (k.state = .cycleOff → answers .busy) ∧ (k.state = .cooldown → answers .cooling)
    ∧ (k.state = .latched → answers .latched) ∧ (k.state = .disabled → answers .notConfigured) := by
  simp only [State.requestOn]
  cases (s.chan c).state <;> cases (s.chan c).cyclePending <;> simp +contextual

/-- The table of R10: the refusals of a CYCLE request by the channel's state. -/
theorem cycleRefusal_outcomes (k : Channel) :
    (k.state = .on → k.cyclePending = none → cycleRefusal k = none)
    ∧ (k.state = .on → k.cyclePending ≠ none → cycleRefusal k = some .busy)
    ∧ (k.state = .cycleOff → cycleRefusal k = some .busy)
    ∧ (k.state = .starting ∨ k.state = .queued ∨ k.state = .off ∨ k.state = .cooldown → cycleRefusal k = some .notOn)
    ∧ (k.state = .latched → cycleRefusal k = some .latched)
    ∧ (k.state = .disabled → cycleRefusal k = some .notConfigured) := by
  unfold cycleRefusal
  cases k.state <;> cases k.cyclePending <;> simp

theorem State.requestCycleHost_refused {id : Nat} {status : Status} (h : cycleRefusal (s.chan c) = some status) :
    s.requestCycleHost c id = (s, status) := by
  simp only [State.requestCycleHost, h]

theorem State.requestCycleHost_accepted {id : Nat} (h : cycleRefusal (s.chan c) = none) :
    s.requestCycleHost c id = (s.onChan c fun k => { k with cyclePending := some id }, .ok) := by
  simp only [State.requestCycleHost, h]

theorem serveChannelCycle_refused {id : Nat} {status : Status} (hst : status ≠ .ok)
    (h : cycleRefusal (s.chan c) = some status) :
    serveChannelCycle id c s = (s, answer status (requestFields s c)) := by
  unfold serveChannelCycle
  rw [State.requestCycleHost_refused h]
  exact if_neg hst

theorem serveChannelCycle_accepted {id : Nat} (h : cycleRefusal (s.chan c) = none) :
    serveChannelCycle id c s =
      (let t := s.onChan c fun k => { k with cyclePending := some id }
      (t, { status := .ok, fields := requestFields t c, awaiting := .cycle c })) := by
  unfold serveChannelCycle
  rw [State.requestCycleHost_accepted h]
  rfl

/-- Settles O29. -/
theorem channelOnOutcomes : Obligations.ChannelOnOutcomes := by
  intro s e c h hp k refused
  have answered {t : State} {st : Status} (hr : s.afterBoundary.requestOn c .host = (t, st)) :
      exec .channelOn s = .next (t.reply e (answer st (requestFields t c))) :=
    exec_served exec_channelOn h hp (congrArg (requestAnswer c) hr)
  obtain ⟨h1, h2, h3, h4, h5, h6, h7, h8, h9⟩ := s.afterBoundary.requestOn_outcomes c .host
  refine ⟨fun ho hl => ?_, fun ho hl => answered (h2 ho hl), fun ho => answered (h3 ho), fun ho hn => answered (h4 ho hn),
    fun ho hn => answered (h5 ho hn), fun ho => answered (h6 ho), fun ho => answered (h7 ho), fun ho => answered (h8 ho),
    fun ho => answered (h9 ho)⟩
  obtain ⟨k1, k2, -⟩ := s.afterBoundary.joinQueue_spec c .host
  refine ⟨s.afterBoundary.joinQueue c .host, ?_, ?_, k1, k2⟩
  · rw [answered (h1 ho hl), requestFields, k1]
    rfl
  · exact (s.afterBoundary_only.append (State.joinQueue_only _ _ _)).mono (by simp)

/-- Settles O30. -/
theorem channelOffOutcomes : Obligations.ChannelOffOutcomes := by
  intro s e c h hp k refused
  have answered {t : State} {st : Status} (hr : s.afterBoundary.requestOff c .host = (t, st)) :
      exec .channelOff s = .next (t.reply e (answer st (requestFields t c))) :=
    exec_served exec_channelOff h hp (congrArg (requestAnswer c) hr)
  refine ⟨fun h1 h2 h3 => ?_, fun ho => answered (State.requestOff_off ho), fun ho => answered (State.requestOff_latched ho),
    fun ho => answered (State.requestOff_disabled ho)⟩
  obtain ⟨k1, k2, -⟩ := s.afterBoundary.leave_spec c .off .host
  refine ⟨s.afterBoundary.leave c .off .host, ?_, ?_, k1, k2⟩
  · rw [answered (State.requestOff_leaves h1 h2 h3), requestFields, show offReasonOf .host = .host from rfl, k1]
    rfl
  · exact (s.afterBoundary_only.append (State.leave_only _ _ _ _)).mono (by simp)

/-- Settles O31. -/
theorem channelCycleAndClear : Obligations.ChannelCycleAndClear := by
  refine ⟨fun s e c h hp => ?_, fun s e c h hp => ?_⟩
  · intro k refused
    have refusedBy {st : Status} (hst : st ≠ .ok) (hr : cycleRefusal k = some st) : refused st :=
      exec_served exec_channelCycle h hp (serveChannelCycle_refused (s := s.afterBoundary) hst hr)
    obtain ⟨h1, h2, h3, h4, h5, h6⟩ := cycleRefusal_outcomes k
    refine ⟨fun ho hn => ?_, fun ho hn => refusedBy (by decide) (h2 ho hn), fun ho => refusedBy (by decide) (h3 ho),
      fun ho => refusedBy (by decide) (h4 ho), fun ho => refusedBy (by decide) (h5 ho), fun ho => refusedBy (by decide) (h6 ho)⟩
    rw [exec_served exec_channelCycle h hp (serveChannelCycle_accepted (s := s.afterBoundary) (h1 ho hn)), requestFields,
      State.onChan_chan_self, show (s.afterBoundary.chan c).state = .on from ho]
    rfl
  · intro k
    have answered {t : State} {st : Status} (hr : s.afterBoundary.requestClear c = (t, st)) :
        exec .channelClear s = .next (t.reply e (answer st (requestFields t c))) :=
      exec_served exec_channelClear h hp (congrArg (requestAnswer c) hr)
    refine ⟨fun hl => ?_, fun hl => answered (if_neg hl)⟩
    rw [answered (if_pos hl), requestFields, State.onChan_chan_self]
    rfl

/-! CHANNEL_CONFIG (R22, R23, R60, R77). -/

/-- What an accepted CHANNEL_CONFIG leaves. -/
theorem State.configureChannel_spec (s : State) (c : Chan) (cfg : ChannelConfig) :
    let t := s.configureChannel c cfg
    t.chan c = (s.chan c).configure cfg ∧ t.sampler = s.sampler.setWindow c (s.chan c).cfg.reportWindow cfg.reportWindow
    ∧ t.profile = { s.profile with unsaved := true } :=
  ⟨State.onChan_chan_self .., rfl, rfl⟩

theorem State.configureChannel_only (s : State) (c : Chan) (cfg : ChannelConfig) :
    OnlyChanges [.sampler, .chan c, .profile] s (s.configureChannel c cfg) := by
  let t := { s with sampler := s.sampler.setWindow c (s.chan c).cfg.reportWindow cfg.reportWindow }
  have hsampler : OnlyChanges [.sampler] s t := fun p hp => by cases p <;> first | rfl | simp at hp
  exact (hsampler.append ((t.onChan_only c _).append (State.onProfile_only _ _))).mono (by simp)

theorem configurable_iff (st : ChState) : ChState.configurable st = true ↔ st = .disabled ∨ st = .off ∨ st = .latched := by
  cases st <;> simp [ChState.configurable]

theorem configuredState_eq (st : ChState) (enabled : Bool) :
    configuredState st enabled = if enabled = false then .disabled else if st = .disabled then .off else st := by
  cases enabled <;> cases st <;> rfl

/-- Settles O28. -/
theorem channelConfigReplaces : Obligations.ChannelConfigReplaces := by
  intro s e c cfg h hp k holds
  have hholds : ¬holds ↔ ChState.configurable k.state = true := by rw [configurable_iff]; simp only [holds]; tauto
  refine ⟨fun hb => exec_served exec_channelConfig h hp (if_pos (Profile.busy_saving hb)), fun hi hh => ?_, fun hi hh => ?_⟩
  · have hidle := Profile.busy_idle hi
    refine exec_served exec_channelConfig h hp ((if_neg (by simpa using hidle)).trans (if_neg fun hc => hholds.2 hc hh))
  · have hidle := Profile.busy_idle hi
    obtain ⟨h1, h2, h3⟩ := s.afterBoundary.configureChannel_spec c cfg
    refine ⟨s.afterBoundary.configureChannel c cfg, ?_, ?_, h3, h1.trans ?_, h2.trans rfl⟩
    · exact exec_served exec_channelConfig h hp ((if_neg (by simpa using hidle)).trans (if_pos (hholds.1 hh)))
    · exact (s.afterBoundary_only.append (State.configureChannel_only _ c cfg)).mono (by simp)
    · simp only [Channel.configure, configuredState_eq]
      rfl

end Sys2Proof.Machine
end

section
/-! Proofs: the end of a save (R127, R128) and the serial line (R140 to R146, R150 to R153). -/

namespace Sys2Proof.Machine
variable {s : State} {p : Profile} {k : CopyId} {w : WorkingConfig}

/-! The save. -/

/-- What a save's end leaves of the Profile Store: all but the target copy, its record and the save itself. -/
def Profile.RestStays (p q : Profile) (k : CopyId) : Prop :=
  q.restartPending = p.restartPending ∧ q.resetLevel = p.resetLevel ∧ q.resetFilter = p.resetFilter ∧ q.source = p.source
    ∧ ∀ other, other ≠ k → q.store other = p.store other ∧ q.record other = p.record other

/-- The end of the write (R128). -/
theorem Profile.endWrite_spec (ht : p.target = some k) (result : WriteEnd) :
    let q := p.endWrite result
    p.RestStays q k ∧ q.record k = p.record k ∧ q.outcome = p.outcome ∧ q.saveState = .verifying ∧ q.current = p.current
    ∧ q.unsaved = p.unsaved ∧ q.target = some k ∧ q.capture = p.capture ∧ q.newGeneration = p.newGeneration
    ∧ q.store k = p.written result ∧ q.writeFailed = writeReported result := by
  unfold Profile.endWrite
  rw [ht]
  dsimp only
  generalize p.written result = found
  cases k <;> refine ⟨⟨rfl, rfl, rfl, rfl, fun other ho => ?_⟩, rfl, rfl, rfl, rfl, rfl, ht, rfl, rfl, rfl, rfl⟩ <;> cases other
  all_goals first | exact absurd rfl ho | exact ⟨rfl, rfl⟩

theorem writeReported_iff (result : WriteEnd) : writeReported result = true ↔ ∃ found, result = .reportedFailure found := by
  cases result <;> simp [writeReported]

/-- The end of a verify that reads the capture back whole (R128). -/
theorem Profile.endVerify_ok {g : Nat} (hv : p.verified k = some g) :
    let q := p.endVerify k
    p.RestStays q k ∧ q.newGeneration = none ∧ q.writeFailed = false ∧ q.saveState = .idle ∧ q.target = none
    ∧ q.current = some k ∧ q.unsaved = false ∧ q.record k = { valid := true, generation := g } ∧ q.store k = p.store k
    ∧ q.capture = p.capture ∧ q.outcome = { outcome := .ok, copy := some k, generation := g } := by
  unfold Profile.endVerify
  rw [hv]
  dsimp only
  cases k <;> refine ⟨⟨rfl, rfl, rfl, rfl, fun other ho => ?_⟩, rfl, rfl, rfl, rfl, rfl, rfl, rfl, rfl, rfl, rfl⟩ <;> cases other
  all_goals first | exact absurd rfl ho | exact ⟨rfl, rfl⟩

/-- The end of any other verify (R128). -/
theorem Profile.endVerify_fails (hv : p.verified k = none) :
    let q := p.endVerify k
    p.RestStays q k ∧ q.newGeneration = none ∧ q.writeFailed = false ∧ q.saveState = .idle ∧ q.target = none
    ∧ q.current = p.current ∧ q.unsaved = p.unsaved ∧ q.record k = { valid := false, generation := 0 } ∧ q.store k = none
    ∧ q.capture = p.capture ∧ q.outcome = { outcome := .writeFail, copy := some k, generation := 0 } := by
  unfold Profile.endVerify
  rw [hv]
  dsimp only
  cases k <;> refine ⟨⟨rfl, rfl, rfl, rfl, fun other ho => ?_⟩, rfl, rfl, rfl, rfl, rfl, rfl, rfl, rfl, rfl, rfl⟩ <;> cases other
  all_goals first | exact absurd rfl ho | exact ⟨rfl, rfl⟩

theorem Profile.verified_some {g : Nat} (hg : p.newGeneration = some g) (hc : p.capture = some w) (hf : p.writeFailed = false)
    (hs : p.store k = some (wholeCopy g w)) : p.verified k = some g := by
  simp only [Profile.verified, hg, hc, hs, hf, and_self, if_true]

theorem Profile.verified_none (hc : p.capture = some w)
    (h : p.newGeneration = none ∨ p.writeFailed = true
      ∨ ∃ g, p.newGeneration = some g ∧ p.store k ≠ some (wholeCopy g w)) : p.verified k = none := by
  unfold Profile.verified
  split
  · next g w' found hg hc' hs =>
    refine if_neg fun ⟨hf, hfound⟩ => ?_
    obtain rfl : w' = w := by simpa [hc] using hc'.symm
    rcases h with h | h | ⟨g', hg', hs'⟩
    · simp [hg] at h
    · simp [hf] at h
    · obtain rfl : g' = g := by simpa [hg] using hg'.symm
      exact hs' (by rw [hs, hfound])
  · rfl

theorem exec_saveVerifyEnd_verifying (h : s.powered = true) (hv : s.profile.saveState = .verifying)
    (ht : s.profile.target = some k) :
    exec .saveVerifyEnd s
      = .next ((s.onProfile fun p => p.endVerify k).post none (savedNotice (s.profile.endVerify k))).settle := by
  rw [exec_saveVerifyEnd, live_powered h]
  simp only [State.verifyEnded, hv, ht]
  rfl

/-- Settles O54. -/
theorem saveEnds : Obligations.SaveEnds := by
  intro s k w h ht hc p restStays
  have hframe : OnlyChanges [.profile, .notices] s
      ((s.onProfile fun p => p.endVerify k).post none (savedNotice (s.profile.endVerify k))) :=
    ((s.onProfile_only _).append (State.post_only _ _ _)).mono (by simp)
  have notice {q : Profile} {o : SaveOutcome} {g : Nat} {unsaved : Bool} (hq : q = s.profile.endVerify k)
      (ho : q.outcome = { outcome := o, copy := some k, generation := g }) (hu : q.unsaved = unsaved) :
      ((s.onProfile fun p => p.endVerify k).post none (savedNotice (s.profile.endVerify k))).notices
        = s.notices.post s.uptime none (.profileSaved o (some k) g unsaved) := by
    subst hq
    show s.notices.post s.uptime none (savedNotice _) = _
    simp only [savedNotice, ho, hu]
  refine ⟨fun hw result => ?_, fun g hv hg hf hs => ?_, fun hv hbad => ?_⟩
  · obtain ⟨h1, h2, h3, h4, h5, h6, h7, h8, h9, h10, h11⟩ := Profile.endWrite_spec ht result
    refine ⟨s.onProfile fun p => p.endWrite result, ?_, s.onProfile_only _, h1, h2, h3, h4, h5, h6, h7, h8.trans hc, h9,
      fun g hg hr => h10.trans ?_, fun g found hg hr => h10.trans ?_, fun hg => h10.trans ?_, ?_⟩
    · rw [exec_saveWriteEnd, live_powered h, if_pos hw]
    · simp only [Profile.written, show s.profile.newGeneration = some g from hg, hc, hr]
      rfl
    · rcases hr with hr | hr <;> simp only [Profile.written, show s.profile.newGeneration = some g from hg, hc, hr]
    · simp only [Profile.written, show s.profile.newGeneration = none from hg]
    · rw [← writeReported_iff, ← h11]
      rfl
  · obtain ⟨h1, h2, h3, h4, h5, h6, h7, h8, h9, h10, h11⟩ := Profile.endVerify_ok (Profile.verified_some hg hc hf hs)
    exact ⟨_, exec_saveVerifyEnd_verifying h hv ht, hframe, h1, h2, h3, h4, h5, h6, h7, h8, h9, h10.trans hc, h11,
      notice rfl h11 h7⟩
  · obtain ⟨h1, h2, h3, h4, h5, h6, h7, h8, h9, h10, h11⟩ := Profile.endVerify_fails (Profile.verified_none hc hbad)
    exact ⟨_, exec_saveVerifyEnd_verifying h hv ht, hframe, h1, h2, h3, h4, h5, h6, h7, h8, h9, h10.trans hc, h11,
      notice rfl h11 h7⟩

/-! The receiver (R140 to R143). -/

/-- A character taken while the receiver takes characters (R140, R143). -/
theorem exec_characterReceived_taken {char : Byte} (h : s.powered = true) (hb : s.link.breakWait = false) :
    exec (.characterReceived char) s
      = .next { s.afterBoundary with link := s.link.takeCharacter char (s.uptime + 6) }.settle := by
  rw [exec_characterReceived, live_powered h, State.takeCharacter, Link.takesCharacters, hb]
  rfl

theorem inFrame_iff (l : Link) : l.inFrame = true ↔ l.receiver ≠ .hunt := by simp [Link.inFrame]

/-- Settles O55. -/
theorem receiverTakesCharacters : Obligations.ReceiverTakesCharacters := by
  intro s char h l took aborted
  refine ⟨fun hb => ?_, fun hb => ?_, fun deadline hr hg hd => ?_⟩
  · have hno : s.link.takesCharacters = false := by simp [Link.takesCharacters, show s.link.breakWait = true from hb]
    refine ⟨?_, ?_, ?_, ?_⟩
    · rw [exec_characterReceived, live_powered h, State.takeCharacter, hno]
      rfl
    · rw [exec_receiveCharacterError, live_powered h, hno]
      rfl
    · rw [exec_frameAbandonBadLen, live_powered h, hno]
      rfl
    · rw [exec_frameComplete, live_powered h, State.completeFrame]
      split
      · rw [hno]
        rfl
      · rfl
  · have hyes : s.link.takesCharacters = true := by simp [Link.takesCharacters, show s.link.breakWait = false from hb]
    have takes {m : Link} (hm : l.takeCharacter char (s.uptime + 6) = m) :
        exec (.characterReceived char) s = .next { s.afterBoundary with link := m }.settle :=
      hm ▸ exec_characterReceived_taken h hb
    have errs (m : Link) (hm : l.takeError = m) :
        exec .receiveCharacterError s = .next { s.afterBoundary with link := m } := by
      rw [exec_receiveCharacterError, live_powered h, hyes, ← hm]
      rfl
    refine ⟨fun hr hc => takes ?_, fun hr hc => ?_, fun hr h2 h250 => takes ?_, fun hr hlen => ⟨takes ?_, ?_⟩,
      fun len got hr hlt => takes ?_, fun len got hr hle => takes ?_, fun len body hr => takes ?_,
      fun hr => errs _ (if_pos ((inFrame_iff l).2 hr)), fun hr => ?_⟩
    · simp only [Link.takeCharacter, hr, hc, if_true]
    · rw [takes (m := l) (by simp only [Link.takeCharacter, hr, hc, if_false])]
      rfl
    · simp only [Link.takeCharacter, hr]
      exact if_neg (by omega)
    · simp only [Link.takeCharacter, hr]
      exact if_pos hlen
    · have hawaits : s.link.awaitsLen = true := by simp [Link.awaitsLen, show s.link.receiver = .length from hr]
      rw [exec_frameAbandonBadLen, live_powered h, hyes, hawaits]
      exact congrArg Host.Outcome.next (if_pos (by simpa using hlen))
    · simp only [Link.takeCharacter, hr]
      exact if_pos hlt
    · simp only [Link.takeCharacter, hr]
      exact if_neg (by omega)
    · simp only [Link.takeCharacter, hr]
    · rw [errs l (if_neg (by rw [inFrame_iff]; simp [hr]))]
      rfl
  · rw [exec_gapTimerExpiry, live_powered h, show s.link.gapTimer = some deadline from hg, due_some, (inFrame_iff l).2 hr]
    exact congrArg Host.Outcome.next (if_pos (by simpa using hd))

/-! A complete frame (R142, R145). -/

section
variable {l : Link} {kind seq : Byte} {payload : List Byte} {crc : BitVec 16} {wait : Nat}

theorem any_repeats_iff :
    l.queue.any (fun e => e.repeats kind seq crc) = true ↔ ∃ e ∈ l.queue, e.kind = kind ∧ e.seq = seq ∧ e.crc = crc := by
  simp [List.any_eq_true, ReqEntry.repeats, and_assoc]

theorem enqueue_inHand (h : l.queue.any (fun e => e.repeats kind seq crc) = true) :
    l.enqueue kind seq payload crc wait = { l with stats := l.stats.countDiscarded } := if_pos h

theorem enqueue_overrun (h : ¬l.queue.any (fun e => e.repeats kind seq crc) = true) (hfull : 4 ≤ l.queue.length) :
    l.enqueue kind seq payload crc wait = { l with stats := l.stats.countOverrun } := (if_neg h).trans (if_pos hfull)

theorem enqueue_answered {kept : KeptReply} (h : ¬l.queue.any (fun e => e.repeats kind seq crc) = true)
    (hroom : l.queue.length < 4) (hk : l.replyList.find? (fun k => k.answers kind seq crc) = some kept) :
    l.enqueue kind seq payload crc wait =
      { l with
        queue := l.queue ++
          [{ id := l.nextId, kind := kind, seq := seq, crc := crc, payload := payload, form := .repeated
             phase := .answered, reply := kept.reply, awaiting := .nothing, signalWait := wait }]
        nextId := l.nextId + 1
        stats := l.stats.countReplied } := by
  refine ((if_neg h).trans (if_neg (by omega))).trans ?_
  rw [hk]

theorem enqueue_new (h : ¬l.queue.any (fun e => e.repeats kind seq crc) = true) (hroom : l.queue.length < 4)
    (hk : l.replyList.find? (fun k => k.answers kind seq crc) = none) :
    l.enqueue kind seq payload crc wait =
      { l with
        queue := l.queue ++
          [{ id := l.nextId, kind := kind, seq := seq, crc := crc, payload := payload, form := .new
             phase := .waiting, reply := [], awaiting := .nothing, signalWait := wait }]
        nextId := l.nextId + 1 } := by
  refine ((if_neg h).trans (if_neg (by omega))).trans ?_
  rw [hk]

/-- A frame whose check passes counts its valid-frame signal where its KIND is assigned, and meets the queue (R142, R145). -/
theorem frameDone_passes {len first last : Byte} (hcrc : crc16 (len :: kind :: seq :: payload) = first ++ last) :
    l.frameDone len (kind :: seq :: payload) first last =
      { l with
        receiver := .hunt, gapTimer := none
        validSignals := l.validSignals + if (ReqKind.ofCode? kind).isSome then 1 else 0 }.enqueue kind seq payload
          (crc16 (len :: kind :: seq :: payload)) (if (ReqKind.ofCode? kind).isSome then l.validSignals + 1 else 0) := by
  refine (if_pos hcrc).trans ?_
  unfold Link.acceptFrame
  split <;> rfl

end

/-- The second check byte, as FRAME_COMPLETE or as a character, completes the frame (R142). -/
theorem exec_frameDone {len first : Byte} {body : List Byte} (last : Byte) (h : s.powered = true)
    (hb : s.link.breakWait = false) (hr : s.link.receiver = .check len body (some first)) :
    exec (.frameComplete last) s
      = .next { s.afterBoundary with link := s.link.frameDone len body first last }.settle
    ∧ exec (.characterReceived last) s
      = .next { s.afterBoundary with link := s.link.frameDone len body first last }.settle := by
  constructor
  · rw [exec_frameComplete, live_powered h]
    simp only [State.completeFrame, hr, Link.takesCharacters, hb]
    rfl
  · rw [exec_characterReceived_taken h hb]
    simp only [Link.takeCharacter, hr]

/-- Settles O56: the four cases of `Link.enqueue`. -/
theorem framesComplete : Obligations.FramesComplete := by
  intro s len first last kind seq payload h hb hr l hunting crc signals wait ends inHand
  have done {m : Link} (hm : l.frameDone len (kind :: seq :: payload) first last = m) : ends m := by
    subst hm
    exact exec_frameDone last h hb hr
  have hhand : ¬inHand ↔ ¬l.queue.any (fun e => e.repeats kind seq crc) = true := not_congr any_repeats_iff.symm
  refine ⟨fun hc => done (if_neg hc), fun hc hin => done ?_, fun hc hin hfull => done ?_, fun kept hc hin hroom hk => done ?_,
    fun hc hin hroom hk => done ?_⟩
  · exact (frameDone_passes hc).trans (enqueue_inHand (any_repeats_iff.2 hin))
  · exact (frameDone_passes hc).trans (enqueue_overrun (hhand.1 hin) hfull)
  · exact (frameDone_passes hc).trans (enqueue_answered (hhand.1 hin) hroom hk)
  · refine (frameDone_passes hc).trans (enqueue_new (hhand.1 hin) hroom (List.find?_eq_none.2 fun k hm hans => hk k hm ?_))
    simpa [KeptReply.answers, and_assoc] using hans

/-! A break, and the last character of a frame (R146, R150 to R152). -/

theorem signalsOf_eq (e : ReqEntry) (fate : ReplyFate) :
    signalsOf e fate = if e.awaiting = Awaiting.nothing then [] else [{ target := e.awaiting, request := e.id, fate := fate }] := by
  unfold signalsOf
  cases e.awaiting <;> rfl

theorem flatMap_signalsOf (q : List ReqEntry) (fate : ReplyFate) :
    q.flatMap (fun e => signalsOf e fate)
      = (q.filter fun e => e.awaiting != Awaiting.nothing).map fun e =>
        { target := e.awaiting, request := e.id, fate := fate } := by
  induction q with
  | nil => rfl
  | cons e q ih =>
    rw [List.flatMap_cons, ih, signalsOf_eq, List.filter_cons]
    by_cases he : e.awaiting = .nothing <;> simp [he]

theorem Link.restart_signals (l : Link) :
    l.restart = { l.restart with
      signals := l.signals
        ++ ((l.queue.filter fun e => e.phase != ReqPhase.sending).filter fun e => e.awaiting != Awaiting.nothing).map
          fun e => { target := e.awaiting, request := e.id, fate := .discarded } } := by
  rw [← flatMap_signalsOf]
  rfl

/-- Settles O57. -/
theorem breakRestartsLink : Obligations.BreakRestartsLink := by
  intro s deadline h hb hd
  have hexec : exec .breakTimerExpiry s = .next s.linkRestart := by
    rw [exec_breakTimerExpiry, live_powered h, hb]
    exact congrArg Host.Outcome.next (if_pos (by simpa using hd))
  refine ⟨s.linkRestart, hexec, s.linkRestart_only, ?_, fun hc => ?_, fun ho => ?_⟩
  · cases ho : s.notices.sessionOpen with
    | false =>
      rw [State.linkRestart, if_neg (by simp [ho])]
      exact s.link.restart_signals
    | true =>
      rw [State.linkRestart, if_pos ho]
      refine (congrArg (fun l : Link => { l with tx := s.link.tx.markStale }) s.link.restart_signals).trans ?_
      cases s.link.tx <;> rfl
  · rw [State.linkRestart, if_neg (by simp [hc])]
    rfl
  · rw [State.linkRestart, if_pos ho]
    rfl

theorem placeReply_eq (form : ReqForm) (k : KeptReply) (list : List KeptReply) :
    placeReply form k list =
      (let kept := if form = ReqForm.new then list
        else list.filter fun x => !(x.kind == k.kind && x.seq == k.seq && x.crc == k.crc)
      (kept ++ [k]).drop (kept.length - 3)) := by
  cases form <;> rfl

theorem replyLeft_cons {l : Link} {e : ReqEntry} {rest : List ReqEntry} (h : l.queue = e :: rest) :
    l.replyLeft =
      { l with
        tx := .idle
        queue := rest
        replyList := placeReply e.form { kind := e.kind, seq := e.seq, crc := e.crc, reply := e.reply } l.replyList
        signals := l.signals ++ signalsOf e .sent } := by
  simp only [Link.replyLeft, h]

/-- Settles O58. -/
theorem frameLeaves : Obligations.FrameLeaves := by
  intro s h
  refine ⟨fun frame e rest ht hq => ?_, fun nseq frame stale ht => ?_, fun ht => ?_⟩
  · have hleft : s.afterBoundary.frameLeft = (s.afterBoundary.onLink Link.replyLeft).nextFrame := by
      simp only [State.frameLeft, State.afterBoundary_link, ht]
    rw [exec_transmitFrameEnd, live_powered h, if_neg (by simp [ht]), hleft, State.onLink, State.afterBoundary_link,
      replyLeft_cons hq, placeReply_eq, signalsOf_eq]
  · rw [exec_transmitFrameEnd, live_powered h, if_neg (by simp [ht])]
    simp only [State.frameLeft, State.afterBoundary_link, ht]
    cases stale <;> rfl
  · rw [exec_transmitFrameEnd, live_powered h, if_pos ht]

end Sys2Proof.Machine
end

section
/-! Proofs: the events of the Notice Unit (R159, R160, R162, R166, R168, R169). -/

namespace Sys2Proof.Machine
variable {s : State} {u : Notices}

/-! The signals and the acknowledgement timer. -/

theorem windowCount_reoffer (q : List Notice) : windowCount (q.map Notice.reoffer) = windowCount q := by
  have hdelivery (n : Notice) : n.reoffer.delivery = n.delivery := by
    unfold Notice.reoffer
    split <;> rfl
  simp only [windowCount, List.filter_map, List.length_map, Function.comp_def, hdelivery]

theorem liftStall_lifts (ho : u.sessionOpen = true) (hs : u.stalled = true) :
    u.liftStall = { u with
      stalled := false, resend := 0
      queue := offerUnsent (4 - windowCount u.queue) (u.queue.map Notice.reoffer) } := by
  refine ((if_pos (by simp [ho, hs])).trans (if_pos (by simp [ho]))).trans ?_
  simp only [windowCount_reoffer]

theorem liftStall_keeps (h : ¬(u.sessionOpen = true ∧ u.stalled = true)) : u.liftStall = u :=
  if_neg (by simpa using h)

theorem takeValidFrame_eq (u : Notices) (now keepaliveExpiry : Nat) :
    u.takeValidFrame now keepaliveExpiry =
      { u with
        latestFrame := now
        keepaliveTimer := if u.sessionOpen = true ∧ u.keepalive ≠ 0 then some keepaliveExpiry else u.keepaliveTimer }.liftStall := by
  unfold Notices.takeValidFrame
  simp only [Bool.and_eq_true, bne_iff_ne]

theorem inWindow_iff {nseq : Nat} {q : List Notice} :
    inWindow nseq q = true ↔ ∃ n ∈ q, n.nseq = nseq ∧ n.delivery ≠ .unsent := by
  simp [inWindow]

theorem exec_noticeSent_pending {nseq : Nat} (h : s.powered = true) (hs : nseq ∈ s.notices.sentSignals) :
    exec (.noticeSent nseq) s = .next
      { s.afterBoundary with
        notices := { s.notices with sentSignals := s.notices.sentSignals.erase nseq }.takeSent nseq (s.uptime + 201) } := by
  rw [exec_noticeSent, live_powered h]
  exact congrArg Host.Outcome.next (if_pos hs)

theorem exec_ackTimerExpiry_due {deadline : Nat} (h : s.powered = true) (ht : s.notices.ackTimer = some deadline)
    (hd : deadline ≤ s.uptime) : exec .ackTimerExpiry s = .next { s with notices := s.notices.ackExpiry }.settle := by
  rw [exec_ackTimerExpiry, live_powered h, ht]
  exact congrArg Host.Outcome.next (if_pos (by simpa using hd))

/-- Settles O59. -/
theorem deliveryEvents : Obligations.DeliveryEvents := by
  intro s h u again
  refine ⟨fun hv => ?_, fun nseq hs hn => ?_, fun nseq hs hn => ?_, fun d ht hd hs hr => ?_, fun d ht hd hr => ?_,
    fun d ht hd hs => ?_⟩
  · let v : Notices := { u with
      latestFrame := s.uptime
      keepaliveTimer := if u.sessionOpen = true ∧ u.keepalive ≠ 0 then some (s.uptime + u.keepalive + 1) else u.keepaliveTimer }
    refine ⟨(s.afterBoundary.onLink Link.signalTaken).onNotices fun _ => v.liftStall, ?_, ?_, rfl, ?_, ?_, fun hns => ?_,
      fun ho hs => ?_⟩
    · rw [exec_validFrameSignal, live_powered h, State.takeValidFrame, if_pos hv]
      simp only [State.onNotices, State.onLink, takeValidFrame_eq]
      rfl
    · exact ((s.afterBoundary_only.append (State.onLink_only _ _)).append (State.onNotices_only _ _)).mono (by simp)
    · show v.liftStall.latestFrame = _
      by_cases hns : v.sessionOpen = true ∧ v.stalled = true
      · rw [liftStall_lifts hns.1 hns.2]
      · rw [liftStall_keeps hns]
    · show v.liftStall.keepaliveTimer = _
      by_cases hns : v.sessionOpen = true ∧ v.stalled = true
      · rw [liftStall_lifts hns.1 hns.2]
      · rw [liftStall_keeps hns]
    · show v.liftStall.queue = _ ∧ v.liftStall.resend = _ ∧ v.liftStall.stalled = _
      rw [liftStall_keeps (u := v) hns]
      exact ⟨rfl, rfl, rfl⟩
    · show v.liftStall.queue = _ ∧ v.liftStall.resend = _ ∧ v.liftStall.stalled = _
      rw [liftStall_lifts (u := v) ho hs]
      exact ⟨rfl, rfl, rfl⟩
  · rw [exec_noticeSent_pending h hs, Notices.takeSent]
    exact congrArg (fun n => Host.Outcome.next { s.afterBoundary with notices := n }) (if_pos (inWindow_iff.2 hn))
  · rw [exec_noticeSent_pending h hs, Notices.takeSent]
    refine congrArg (fun n => Host.Outcome.next { s.afterBoundary with notices := n }) (if_neg fun hin => ?_)
    obtain ⟨n, hm, hp⟩ := inWindow_iff.1 hin
    exact hn n hm hp
  · rw [exec_ackTimerExpiry_due h ht hd]
    exact congrArg (fun n => Host.Outcome.next (State.settle { s with notices := n }))
      ((if_neg (by simp [show s.notices.stalled = false from hs])).trans (if_pos hr))
  · rw [exec_ackTimerExpiry_due h ht hd]
    refine congrArg (fun n => Host.Outcome.next (State.settle { s with notices := n })) ?_
    cases hs : s.notices.stalled with
    | false => exact (if_neg (by simp [hs])).trans (if_neg (Nat.not_lt.2 hr))
    | true => exact (if_pos hs).trans (by rw [← hs])
  · rw [exec_ackTimerExpiry_due h ht hd]
    exact congrArg (fun n => Host.Outcome.next (State.settle { s with notices := n })) (if_pos hs)

/-! Host loss (R160). -/

/-- What some channels give up, one after another (R5). -/
theorem foldl_drop (cs : List Chan) (b : Budget) :
    cs.foldl Budget.drop b =
      { b with
        records := PerChan.ofFn fun c => if c ∈ cs then none else b.records.get c
        claims := b.claims.filter fun x => x.chan ∉ cs
        queue := b.queue.filter fun x => x.chan ∉ cs
        scanDue := (cs.foldl Budget.drop b).scanDue } := by
  induction cs generalizing b with
  | nil => simp
  | cons d rest ih =>
    have hrecords : (PerChan.ofFn fun c => if c ∈ rest then none else (b.drop d).records.get c)
        = PerChan.ofFn fun c => if c ∈ d :: rest then none else b.records.get c := by
      ext1 c
      by_cases hc : c = d <;> simp [Budget.drop, PerChan.get_set, hc]
    have hclaims : (b.drop d).claims.filter (fun x => decide (x.chan ∉ rest))
        = b.claims.filter fun x => decide (x.chan ∉ d :: rest) := by
      simp only [Budget.drop, List.filter_filter]
      exact List.filter_congr fun x _ => by by_cases hx : x.chan = d <;> simp [hx]
    have hqueue : (b.drop d).queue.filter (fun x => decide (x.chan ∉ rest))
        = b.queue.filter fun x => decide (x.chan ∉ d :: rest) := by
      simp only [Budget.drop, List.filter_filter]
      exact List.filter_congr fun x _ => by by_cases hx : x.chan = d <;> simp [hx]
    rw [List.foldl_cons, ih, hrecords, hclaims, hqueue]
    rfl

/-- A scan is due after it where one of the channels held a record or an entry (R33). -/
theorem foldl_drop_scanDue {cs : List Chan} (h : cs.Nodup) (b : Budget) :
    (cs.foldl Budget.drop b).scanDue = (b.scanDue || cs.any fun c => (b.records.get c).isSome || b.hasEntry c) := by
  induction cs generalizing b with
  | nil => simp
  | cons d rest ih =>
    obtain ⟨hd, hrest⟩ := List.nodup_cons.1 h
    have hentry : ∀ c ∈ rest, (b.drop d).hasEntry c = b.hasEntry c := by
      intro c hc
      have hcd : c ≠ d := fun hcd => hd (hcd ▸ hc)
      simp only [Budget.drop, Budget.hasEntry, List.any_filter]
      congr 1
      funext x
      by_cases hx : x.chan = c <;> simp [hx, hcd]
    have hany : (rest.any fun c => ((b.drop d).records.get c).isSome || (b.drop d).hasEntry c)
        = rest.any fun c => (b.records.get c).isSome || b.hasEntry c := by
      rw [Bool.eq_iff_iff, List.any_eq_true, List.any_eq_true]
      refine exists_congr fun c => and_congr_right fun hc => ?_
      rw [hentry c hc, show (b.drop d).records.get c = b.records.get c from
        PerChan.get_set_ne _ _ fun hcd => hd (hcd ▸ hc)]
    rw [List.foldl_cons, ih hrest, hany]
    simp [Budget.drop, Bool.or_assoc]

theorem exec_keepaliveExpiry_due {deadline : Nat} (h : s.powered = true) (ho : s.notices.sessionOpen = true)
    (ht : s.notices.keepaliveTimer = some deadline) (hd : deadline ≤ s.uptime) :
    exec .keepaliveExpiry s = .next s.hostLost.settle := by
  rw [exec_keepaliveExpiry, live_powered h, ho, ht]
  exact congrArg Host.Outcome.next (if_pos (by simpa using hd))

/-- Settles O60. -/
theorem keepaliveLosesHost : Obligations.KeepaliveLosesHost := by
  intro s deadline h ho ht hd lost ended
  have hlost : hostLossChannels s = Chan.all.filter lost := by
    refine List.filter_congr fun c _ => ?_
    cases hs : (s.chan c).state <;> cases hl : (s.chan c).cfg.hostLoss <;> simp [lost, hs, hl]
  have hmem (c : Chan) : c ∈ Chan.all.filter lost ↔ lost c = true := by simp [Chan.mem_all]
  have hleave : ∀ c ∈ Chan.all.filter lost,
      (s.chan c).state ≠ .off ∧ (s.chan c).state ≠ .latched ∧ (s.chan c).state ≠ .disabled := by
    intro c hc
    obtain ⟨-, h1, h2, h3⟩ := of_decide_eq_true ((hmem c).1 hc)
    exact ⟨h2, h3, h1⟩
  have hnodup : (Chan.all.filter lost).Nodup := Chan.all_nodup.filter _
  obtain ⟨k1, k2, k3⟩ := s.endSession.hostLossOff_spec (Chan.all.filter lost) hnodup hleave
  rw [foldl_drop, foldl_drop_scanDue hnodup] at k3
  refine ⟨s.hostLost, exec_keepaliveExpiry_due h ho ht hd, ?_, fun c => ?_, ?_, ?_, ?_⟩
  all_goals unfold State.hostLost; rw [hlost]
  · refine (((State.endSession_only s).append (State.hostLossOff_only _ _)).append (State.post_only _ _ _)).mono fun p hp => ?_
    cases p <;> simp_all
  · by_cases hc : lost c = true
    · rw [if_pos hc]
      exact k2 c ((hmem c).2 hc)
    · rw [if_neg hc]
      exact k1 (.chan c) (by simp [hmem, hc])
  · refine k3.trans ?_
    simp only [hmem, decide_not, Bool.decide_eq_true, List.any_filter]
    rfl
  · have hlink : (s.endSession.hostLossOff (Chan.all.filter lost)).link = s.endSession.link := k1 .link (by simp)
    refine hlink.trans ?_
    show { s.link with tx := s.link.tx.markStale } = _
    cases s.link.tx <;> rfl
  · have hnotices : (s.endSession.hostLossOff (Chan.all.filter lost)).notices = s.endSession.notices := k1 .notices (by simp)
    have huptime : (s.endSession.hostLossOff (Chan.all.filter lost)).uptime = s.uptime := k1 .uptime (by simp)
    show Notices.post (State.notices _) (State.uptime _) none _ = _
    rw [hnotices, huptime]
    rfl

end Sys2Proof.Machine
end

section
/-! Proofs: the due pass and the firing of an entry (R112 to R115), and SCHED_ADD (R116, R117). -/

namespace Sys2Proof.Machine
variable {s : State} {e : SchedEntry} {rest : List SchedEntry}

/-! The due pass: a pass with as many firings as entries are due fires them all. -/

/-- How many entries of a list are due. -/
def dueCount (now : Nat) (l : List SchedEntry) : Nat := l.countP fun x => x.due ≤ now

theorem dueCount_zero_iff {now : Nat} {l : List SchedEntry} : dueCount now l = 0 ↔ ∀ x ∈ l, now < x.due := by
  simp [dueCount, List.countP_eq_zero]

theorem State.fire_uptime (s : State) (e : SchedEntry) (rest : List SchedEntry) : (s.fire e rest).uptime = s.uptime :=
  s.fire_only e rest .uptime (by simp)

theorem State.fire_schedule (s : State) (e : SchedEntry) (rest : List SchedEntry) :
    (s.fire e rest).schedule = afterFiring e rest s.uptime := by
  unfold State.fire
  exact State.post_schedule ..

/-- A fired entry is no more due: it has left, or is re-armed past the uptime (R114, R115). -/
theorem afterFiring_dueCount {now : Nat} (h : e.due ≤ now) : dueCount now (afterFiring e rest now) = dueCount now rest := by
  unfold afterFiring
  split
  · rfl
  · next hp =>
    have hlate := (rearm_due e now h (by omega)).1
    rw [dueCount, (placeEntry_perm _ _).countP_eq, List.countP_cons_of_neg (by simpa using hlate)]
    rfl

theorem State.fire_dueCount (h : e.due ≤ s.uptime) :
    dueCount (s.fire e rest).uptime (s.fire e rest).schedule = dueCount s.uptime rest := by
  rw [s.fire_uptime, s.fire_schedule, afterFiring_dueCount h]

theorem dueCount_cons (h : e.due ≤ s.uptime) : dueCount s.uptime (e :: rest) = dueCount s.uptime rest + 1 :=
  List.countP_cons_of_pos (by simpa using h)

theorem State.firePass_succ (n : Nat) (hs : s.schedule = e :: rest) (h : e.due ≤ s.uptime) :
    State.firePass (n + 1) s = State.firePass n (s.fire e rest) := by
  simp only [State.firePass, hs, h, if_true]

theorem State.firePass_stops (n : Nat) (h : ∀ x ∈ s.schedule, s.uptime < x.due) : State.firePass n s = s := by
  cases n with
  | zero => rfl
  | succ n =>
    unfold State.firePass
    cases hs : s.schedule with
    | nil => rfl
    | cons e rest => exact if_neg (by have := h e (by simp [hs]); omega)

/-- Firings beyond the entries that are due change nothing. -/
theorem State.firePass_enough {n m : Nat} (hn : dueCount s.uptime s.schedule ≤ n) (hm : dueCount s.uptime s.schedule ≤ m) :
    State.firePass n s = State.firePass m s := by
  induction n generalizing m s with
  | zero =>
    have hnone := dueCount_zero_iff.1 (Nat.le_zero.1 hn)
    rw [State.firePass_stops m hnone]
    rfl
  | succ n ih =>
    cases hs : s.schedule with
    | nil => rw [State.firePass_stops _ (by simp [hs]), State.firePass_stops _ (by simp [hs])]
    | cons e rest =>
      by_cases hd : e.due ≤ s.uptime
      · rw [hs, dueCount_cons hd] at hn hm
        obtain ⟨m, rfl⟩ : ∃ k, m = k + 1 := ⟨m - 1, by omega⟩
        rw [State.firePass_succ n hs hd, State.firePass_succ m hs hd]
        exact ih (by rw [State.fire_dueCount hd]; omega) (by rw [State.fire_dueCount hd]; omega)
      · cases m <;> simp only [State.firePass, hs, hd, if_false]

theorem dueCount_le (s : State) : dueCount s.uptime s.schedule ≤ s.schedule.length := List.countP_le_length

/-- The head is due: it fires, and the pass goes on (R112). -/
theorem State.duePass_fires (hs : s.schedule = e :: rest) (h : e.due ≤ s.uptime) : s.duePass = (s.fire e rest).duePass := by
  unfold State.duePass
  rw [hs, List.length_cons, State.firePass_succ _ hs h]
  refine State.firePass_enough ?_ (dueCount_le _)
  rw [State.fire_dueCount h]
  exact List.countP_le_length

theorem State.duePass_stops (h : ∀ x ∈ s.schedule, s.uptime < x.due) : s.duePass = s := State.firePass_stops _ h

/-- The head is due, and it alone. -/
theorem State.duePass_once (hs : s.schedule = e :: rest) (h : e.due ≤ s.uptime) (hr : ∀ x ∈ rest, s.uptime < x.due) :
    s.duePass = s.fire e rest := by
  rw [State.duePass_fires hs h]
  refine State.duePass_stops (dueCount_zero_iff.1 ?_)
  rw [State.fire_dueCount h]
  exact dueCount_zero_iff.2 hr

theorem afterFiring_sorted (h : (e :: rest).Pairwise fun x y => x.due ≤ y.due) (now : Nat) :
    (afterFiring e rest now).Pairwise fun x y => x.due ≤ y.due := by
  unfold afterFiring
  split
  · exact h.of_cons
  · exact placeEntry_sorted h.of_cons

/-- After a pass over a list in order no entry is due (R112). -/
theorem State.firePass_none_due {n : Nat} (hn : dueCount s.uptime s.schedule ≤ n)
    (h : s.schedule.Pairwise fun x y => x.due ≤ y.due) :
    ∀ x ∈ (State.firePass n s).schedule, s.uptime < x.due := by
  induction n generalizing s with
  | zero => exact dueCount_zero_iff.1 (Nat.le_zero.1 hn)
  | succ n ih =>
    cases hs : s.schedule with
    | nil =>
      rw [State.firePass_stops _ (by simp [hs])]
      simp [hs]
    | cons e rest =>
      rw [hs] at h
      by_cases hd : e.due ≤ s.uptime
      · rw [State.firePass_succ n hs hd, ← s.fire_uptime e rest]
        refine ih ?_ (s.fire_schedule e rest ▸ afterFiring_sorted h _)
        rw [hs, dueCount_cons hd] at hn
        rw [State.fire_dueCount hd]
        omega
      · have hlate : ∀ x ∈ s.schedule, s.uptime < x.due := by
          intro x hx
          rw [hs] at hx
          rcases List.mem_cons.1 hx with rfl | hx
          · omega
          · have := (List.pairwise_cons.1 h).1 x hx
            omega
        rw [State.firePass_stops _ hlate]
        exact hlate

/-! One firing (R113 to R115). -/

theorem State.scheduleRequest_only (s : State) (e : SchedEntry) : OnlyChanges [.chan e.chan, .budget] s (s.scheduleRequest e).1 := by
  unfold State.scheduleRequest
  cases e.action with
  | on => exact s.requestOn_only _ _
  | off => exact s.requestOff_only _ _
  | cycle => exact s.requestCycleSchedule_only _

/-- What a firing leaves, by what the channel answers. -/
theorem State.fire_answered {u : State} {status : Status} (h : s.scheduleRequest e = (u, status)) :
    (s.fire e rest).chan e.chan = u.chan e.chan ∧ (s.fire e rest).budget = u.budget.runScan s.uptime
    ∧ (s.fire e rest).notices = s.notices.post s.uptime (some e.chan)
        (.scheduleFired e.tag e.action e.due status (u.chan e.chan).state (nextDue e s.uptime) e.missed) := by
  have honly := s.scheduleRequest_only e
  rw [h] at honly
  have huptime : u.uptime = s.uptime := honly .uptime (by simp)
  have hnotices : u.notices = s.notices := honly .notices (by simp)
  unfold State.fire
  rw [h, ← huptime, ← hnotices]
  exact ⟨rfl, rfl, rfl⟩

theorem State.requestCycleSchedule_refused {c : Chan} {status : Status} (h : cycleRefusal (s.chan c) = some status) :
    s.requestCycleSchedule c = (s, status) := by
  simp only [State.requestCycleSchedule, h]

theorem State.requestCycleSchedule_accepted {c : Chan} (h : cycleRefusal (s.chan c) = none) :
    s.requestCycleSchedule c = (s.enterCycleOff c, .ok) := by
  simp only [State.requestCycleSchedule, h]

/-- A re-armed entry is due by the least number of periods past the uptime (R115). -/
theorem rearm_least {now : Nat} (h : e.due ≤ now) (hp : 1 ≤ e.period) :
    let n := rearmCount e now
    1 ≤ n ∧ now < e.due + n * (1000 * e.period) ∧ e.due + (n - 1) * (1000 * e.period) ≤ now := by
  refine ⟨by simp [rearmCount], (rearm_due e now h hp).1, ?_⟩
  have := Nat.div_mul_le_self (now - e.due) (1000 * e.period)
  simp only [rearmCount, Nat.add_sub_cancel]
  omega

/-- Settles O53. -/
theorem duePassFires : Obligations.DuePassFires := by
  intro s
  refine ⟨fun h => ?_, State.duePass_stops, State.firePass_none_due (dueCount_le s), ?_⟩
  · rw [exec_duePass, live_powered h]
  intro e rest hs hd c k p t
  refine ⟨State.duePass_fires hs hd, State.duePass_once hs hd, s.fire_only e rest, nextDue e s.uptime, fun hp => ?_, fun hp => ?_, ?_⟩
  · refine ⟨if_pos hp, (s.fire_schedule e rest).trans (if_pos hp)⟩
  · obtain ⟨h1, h2, h3⟩ := rearm_least hd hp
    refine ⟨rearmCount e s.uptime, h1, h2, h3, if_neg (by omega), (s.fire_schedule e rest).trans (if_neg (by omega))⟩
  intro outcome refused
  have answered {u : State} {status : Status} {after : Channel} {b : Budget} (h : s.scheduleRequest e = (u, status))
      (hc : u.chan c = after) (hb : u.budget = b) : outcome status after b := by
    subst hc hb
    exact State.fire_answered h
  have asksOn (ha : e.action = .on) : s.scheduleRequest e = s.requestOn c .schedule := by rw [State.scheduleRequest, ha]
  have asksOff (ha : e.action = .off) : s.scheduleRequest e = s.requestOff c .schedule := by rw [State.scheduleRequest, ha]
  have asksCycle (ha : e.action = .cycle) : s.scheduleRequest e = s.requestCycleSchedule c := by rw [State.scheduleRequest, ha]
  obtain ⟨o1, o2, o3, o4, o5, o6, o7, o8, o9⟩ := s.requestOn_outcomes c .schedule
  obtain ⟨c1, c2, c3, c4, c5, c6⟩ := cycleRefusal_outcomes k
  refine ⟨fun ha => ?_, fun ha => ?_, fun ha => ?_, fun hl => ?_, fun hl => ?_⟩
  · have refusedOn {status : Status} (h : s.requestOn c .schedule = (s, status)) : refused status :=
      answered ((asksOn ha).trans h) rfl rfl
    obtain ⟨k1, k2, -⟩ := s.joinQueue_spec c .schedule
    exact ⟨fun h hl => answered ((asksOn ha).trans (o1 h hl)) k1 k2, fun h hl => refusedOn (o2 h hl), fun h => refusedOn (o3 h),
      fun h hn => refusedOn (o4 h hn), fun h hn => refusedOn (o5 h hn), fun h => refusedOn (o6 h), fun h => refusedOn (o7 h)⟩
  · obtain ⟨k1, k2, -⟩ := s.leave_spec c .off .schedule
    exact ⟨fun h1 h2 h3 => answered ((asksOff ha).trans (State.requestOff_leaves h1 h2 h3)) k1 k2,
      fun h => answered ((asksOff ha).trans (State.requestOff_off h)) rfl rfl⟩
  · have refusedCycle {status : Status} (h : cycleRefusal k = some status) : refused status :=
      answered ((asksCycle ha).trans (State.requestCycleSchedule_refused h)) rfl rfl
    exact ⟨fun h hn => answered ((asksCycle ha).trans (State.requestCycleSchedule_accepted (c1 h hn)))
        (State.onChan_chan_self ..) rfl,
      fun h hn => refusedCycle (c2 h hn), fun h => refusedCycle (c3 h), fun h => refusedCycle (c4 h)⟩
  · cases ha : e.action with
    | on => exact answered ((asksOn ha).trans (o8 hl)) rfl rfl
    | off => exact answered ((asksOff ha).trans (State.requestOff_latched hl)) rfl rfl
    | cycle => exact answered ((asksCycle ha).trans (State.requestCycleSchedule_refused (c5 hl))) rfl rfl
  · cases ha : e.action with
    | on => exact answered ((asksOn ha).trans (o9 hl)) rfl rfl
    | off => exact answered ((asksOff ha).trans (State.requestOff_disabled hl)) rfl rfl
    | cycle => exact answered ((asksCycle ha).trans (State.requestCycleSchedule_refused (c6 hl))) rfl rfl

/-! SCHED_ADD (R116, R117). -/

theorem addRefusal_duplicate {l : List SchedEntry} {tag : Nat} (h : ∃ x ∈ l, x.tag = tag) :
    addRefusal l tag = some .duplicateTag := if_pos (by simpa using h)

theorem addRefusal_full {l : List SchedEntry} {tag : Nat} (h : ∀ x ∈ l, x.tag ≠ tag) (hl : 32 ≤ l.length) :
    addRefusal l tag = some .listFull := (if_neg (by simpa using h)).trans (if_pos hl)

theorem serveSchedAdd_refused {id : Nat} {f : SchedAddFields} {status : Status} (h : addRefusal s.schedule f.tag = some status) :
    serveSchedAdd id f s = (s, answer status (addFields f.tag 0 false s)) := by
  simp only [serveSchedAdd, h]

theorem serveSchedAdd_accepted {id : Nat} {f : SchedAddFields} (h : addRefusal s.schedule f.tag = none) :
    serveSchedAdd id f s =
      (let e := newEntry f s.uptime
      let t := { s with schedule := placeEntry e s.schedule }.duePass
      (t, answer .ok (addFields f.tag e.due (decide (e.due ≤ s.uptime)) t))) := by
  simp only [serveSchedAdd, h]

theorem State.fire_length (s : State) (e : SchedEntry) (rest : List SchedEntry) :
    (s.fire e rest).schedule.length = if e.period = 0 then rest.length else rest.length + 1 := by
  rw [s.fire_schedule, afterFiring]
  split
  · rfl
  · exact placeEntry_length ..

/-- Settles O34. -/
theorem schedAddPlaces : Obligations.SchedAddPlaces := by
  intro s e f h hp boundary formed entry placed t refused accepted
  have hentry : newEntry f s.uptime = entry := rfl
  have refusedBy {st : Status} (hr : addRefusal s.schedule f.tag = some st) : refused st :=
    exec_served exec_schedAdd h hp (serveSchedAdd_refused (s := s.afterBoundary) hr)
  have accepts (hr : addRefusal s.schedule f.tag = none) :
      accepted t.duePass (decide (formed ≤ s.uptime)).toNat t.duePass.schedule.length := by
    refine exec_served exec_schedAdd h hp ((serveSchedAdd_accepted (s := s.afterBoundary) hr).trans ?_)
    rw [show s.afterBoundary.uptime = s.uptime from rfl, hentry]
    rfl
  have acceptsFired {u : State} {fired left : Nat} (hr : addRefusal s.schedule f.tag = none) (hu : t.duePass = u)
      (hf : (decide (formed ≤ s.uptime)).toNat = fired) (hl : u.schedule.length = left) : accepted u fired left := by
    subst hu hf hl
    exact accepts hr
  refine ⟨fun hd => refusedBy (addRefusal_duplicate hd), fun hn hl => refusedBy (addRefusal_full hn hl), fun hn hl => ?_,
    fun hn hl hlate hnone => ?_, fun hs hd hp0 => ?_, fun hs hd hp1 => ?_⟩
  · exact ⟨accepts ((addRefusal_none_iff _ _).2 ⟨hn, hl⟩), fun x rest hx hd => State.duePass_fires (s := t) hx hd⟩
  · have hstops : t.duePass = t := by
      refine State.duePass_stops fun x hx => ?_
      rcases (mem_placeEntry entry x s.schedule).1 hx with rfl | hx
      · exact hlate
      · exact hnone x hx
    exact acceptsFired ((addRefusal_none_iff _ _).2 ⟨hn, hl⟩) hstops (by simp [hlate]) (placeEntry_length entry s.schedule)
  all_goals
    have hplaced : t.schedule = [entry] := by
      show placeEntry entry s.schedule = _
      rw [hs]
      rfl
    have hfires : t.duePass = t.fire entry [] := State.duePass_once hplaced hd (by simp)
    refine acceptsFired ((addRefusal_none_iff _ _).2 (by simp [hs])) hfires (by simp [hd]) ?_
    rw [State.fire_length]
  · exact if_pos hp0
  · exact if_neg (show ¬f.period = 0 by omega)

end Sys2Proof.Machine
end

section
/-! Proofs: sheds come in rank, and to whom (R39, R40, R43, R47, R49, R136). -/

namespace Sys2Proof.Machine
variable {s t : State} {b d : Budget} {c : Chan} {r : Reservation}

/-! What stands before a record in rank, and how much is held from it on. -/

theorem Budget.before_iff {x y : Chan} :
    b.before x y = true ↔
      ∃ r q, b.records.get x = some r ∧ b.records.get y = some q ∧ RanksBehind y q x r := by
  unfold Budget.before RanksBehind
  cases b.records.get x <;> cases b.records.get y <;> simp

theorem Budget.firstInRank_before {cand : Reservation → Bool} (h : b.firstInRank cand = some (c, r)) {x : Chan}
    {q : Reservation} (hx : b.records.get x = some q) (hq : cand q = true) (hne : x ≠ c) : b.before c x = true :=
  Budget.before_iff.2 ⟨r, q, (b.firstInRank_some h).1, hx, (rankFrom_first Chan.all_ascending (by simp) h).2 x x.mem_all q hx hq hne⟩

theorem RanksBehind.asymm {x y : Chan} {p q : Reservation} (h : RanksBehind x p y q) : ¬RanksBehind y q x p := by
  unfold RanksBehind at *
  omega

theorem Budget.before_asymm {x y : Chan} (h : b.before x y = true) : b.before y x = false := by
  obtain ⟨r, q, hr, hq, hrank⟩ := Budget.before_iff.1 h
  refine Bool.eq_false_iff.2 fun h' => ?_
  obtain ⟨q', r', hq', hr', hrank'⟩ := Budget.before_iff.1 h'
  obtain rfl : q = q' := Option.some.inj (hq.symm.trans hq')
  obtain rfl : r = r' := Option.some.inj (hr.symm.trans hr')
  exact hrank.asymm hrank'

/-- A record that is gone has left the rank of the others as it was. -/
theorem Budget.before_removed (h : d.records = b.records.set c none) {x y : Chan} (hx : x ≠ c) (hy : y ≠ c) :
    d.before x y = b.before x y := by
  unfold Budget.before
  rw [h, PerChan.get_set_ne _ _ hx, PerChan.get_set_ne _ _ hy]

theorem Budget.amountFrom_le (b : Budget) (c : Chan) : b.amountFrom c ≤ b.committed := by
  unfold Budget.amountFrom Budget.committed recordSum
  refine List.sum_le_sum fun x _ => ?_
  split
  · exact Nat.zero_le _
  · exact Nat.le_refl _

/-- From the first in rank on everything held is committed. -/
theorem Budget.amountFrom_first (h : b.firstInRank anyHeld = some (c, r)) : b.amountFrom c = b.committed := by
  refine congrArg List.sum (List.map_congr_left fun x _ => ?_)
  refine if_neg fun hx => ?_
  obtain ⟨q, r', hq, hr', hrank⟩ := Budget.before_iff.1 hx
  by_cases hxc : x = c
  · subst hxc
    obtain rfl : q = r' := Option.some.inj (hq.symm.trans hr')
    exact hrank.asymm hrank
  · have := Budget.firstInRank_before h hq rfl hxc
    rw [Budget.before_asymm this] at hx
    cases hx

/-- The first in rank is not counted from another on, so that the sum is the same without it. -/
theorem Budget.amountFrom_removed (h : b.firstInRank anyHeld = some (c, r)) (hd : d.records = b.records.set c none) {x : Chan}
    (hx : x ≠ c) (hheld : (b.records.get x).isSome = true) : d.amountFrom x = b.amountFrom x := by
  obtain ⟨q, hq⟩ := Option.isSome_iff_exists.1 hheld
  refine congrArg List.sum (List.map_congr_left fun y _ => ?_)
  by_cases hy : y = c
  · subst hy
    rw [if_pos (Budget.firstInRank_before h hq rfl hx), hd, PerChan.get_set_self]
    split <;> rfl
  · rw [Budget.before_removed hd hy hx, hd, PerChan.get_set_ne _ _ hy]

/-! The order of the sheds of one event (R39). -/

theorem Budget.InRank.mem_iff {p : Chan → Prop} {order : List Chan} (h : b.InRank p order) (c : Chan) : c ∈ order ↔ p c := by
  obtain ⟨-, hmem, -⟩ := h
  exact hmem c

theorem Budget.inRank_nil {p : Chan → Prop} (h : ∀ c, ¬p c) : b.InRank p [] :=
  ⟨List.nodup_nil, fun c => by simpa using h c, List.Pairwise.nil⟩

/-- The first in rank, then the others in the rank of what its shed leaves. -/
theorem Budget.InRank.cons {cand : Reservation → Bool} {p p' : Chan → Prop} {order : List Chan}
    (h : b.firstInRank cand = some (c, r)) (hd : d.records = b.records.set c none) (ho : d.InRank p' order)
    (hp : ∀ x, p x ↔ x = c ∨ p' x) (hcand : ∀ x, p' x → ∃ q, d.records.get x = some q ∧ cand q = true) :
    b.InRank p (c :: order) := by
  obtain ⟨hnodup, hmem, hrank⟩ := ho
  have hne : ∀ x ∈ order, x ≠ c := by
    rintro x hx rfl
    obtain ⟨q, hq, -⟩ := hcand x ((hmem x).1 hx)
    rw [hd, PerChan.get_set_self] at hq
    cases hq
  refine ⟨List.nodup_cons.2 ⟨fun hc => hne c hc rfl, hnodup⟩, fun x => ?_, List.pairwise_cons.2 ⟨fun x hx => ?_, ?_⟩⟩
  · rw [List.mem_cons, hmem, hp]
  · obtain ⟨q, hq, hc⟩ := hcand x ((hmem x).1 hx)
    rw [hd, PerChan.get_set_ne _ _ (hne x hx)] at hq
    exact Budget.firstInRank_before h hq hc (hne x hx)
  · exact hrank.imp_of_mem fun {x y} hx hy hxy => by rwa [Budget.before_removed hd (hne x hx) (hne y hy)] at hxy

theorem Budget.heldCount_zero {x : Chan} (h : b.heldCount = 0) : b.records.get x = none := by
  cases hr : b.records.get x with
  | none => rfl
  | some r =>
    have := Budget.heldCount_set_none hr (d := b.drop x) rfl
    omega

theorem State.shedChannel_kept (s : State) (c : Chan) (cause : ShedCause) :
    (s.shedChannel c cause).budget.records = s.budget.records.set c none
    ∧ (s.shedChannel c cause).budget.settings = s.budget.settings := by
  obtain ⟨-, -, -, -, -, -, hrecords, hsettings, -⟩ := s.shedChannel_spec c cause
  exact ⟨hrecords, hsettings⟩

/-- Sheds of the excess, in number enough, are in rank the channels that they come to with committed above the limit. -/
theorem shedWhile_excess_inRank (n : Nat) (s : State) (h : s.budget.heldCount ≤ n) :
    s.budget.InRank s.budget.Excess ((State.shedWhile .budget anyHeld Budget.excess n s).2.map (·.1)) := by
  induction n generalizing s with
  | zero => exact Budget.inRank_nil fun c hc => by simp [Budget.Excess, Budget.heldCount_zero (Nat.le_zero.1 h)] at hc
  | succ n ih =>
    unfold State.shedWhile
    split
    · next hmore =>
      split
      · next hf =>
        refine Budget.inRank_nil fun c ⟨hheld, _⟩ => ?_
        obtain ⟨r, hr⟩ := Option.isSome_iff_exists.1 hheld
        exact absurd ((rankFrom_none hf).2 c c.mem_all r hr) (by simp [anyHeld])
      · next c r hf =>
        obtain ⟨hrecords, hsettings⟩ := s.shedChannel_kept c .budget
        have hheld := (Budget.firstInRank_some _ hf).1
        have hcount := Budget.heldCount_set_none hheld hrecords
        refine Budget.InRank.cons hf hrecords (ih (s.shedChannel c .budget) (by omega)) (fun x => ?_) fun x hx => ?_
        · by_cases hx : x = c
          · subst hx
            have hlimit : s.budget.settings.limit < s.budget.committed := of_decide_eq_true hmore
            simpa [Budget.Excess, hheld, Budget.amountFrom_first hf] using hlimit
          · unfold Budget.Excess
            rw [hsettings, hrecords, PerChan.get_set_ne _ _ hx]
            simp only [hx, false_or]
            refine and_congr_right fun hs => ?_
            rw [Budget.amountFrom_removed hf hrecords hx hs]
        · obtain ⟨q, hq⟩ := Option.isSome_iff_exists.1 hx.1
          exact ⟨q, hq, rfl⟩
    · next hmore =>
      have hle : s.budget.committed ≤ s.budget.settings.limit := by simpa [Budget.excess] using hmore
      exact Budget.inRank_nil fun c ⟨_, hc⟩ => absurd (s.budget.amountFrom_le c) (by omega)

/-- Sheds of all the candidates, in number enough. -/
theorem shedWhile_all_inRank {cause : ShedCause} {cand : Reservation → Bool} (n : Nat) (s : State)
    (h : s.budget.heldCount ≤ n) :
    s.budget.InRank (fun c => ∃ r, s.budget.records.get c = some r ∧ cand r = true)
      ((State.shedWhile cause cand (fun _ => true) n s).2.map (·.1)) := by
  induction n generalizing s with
  | zero => exact Budget.inRank_nil fun c hc => by simp [Budget.heldCount_zero (Nat.le_zero.1 h)] at hc
  | succ n ih =>
    unfold State.shedWhile
    rw [if_pos rfl]
    split
    · next hf =>
      refine Budget.inRank_nil fun c ⟨r, hr, hc⟩ => ?_
      rw [(rankFrom_none hf).2 c c.mem_all r hr] at hc
      cases hc
    · next c r hf =>
      obtain ⟨hrecords, -⟩ := s.shedChannel_kept c cause
      obtain ⟨hheld, hcand⟩ := Budget.firstInRank_some _ hf
      have hcount := Budget.heldCount_set_none hheld hrecords
      refine Budget.InRank.cons hf hrecords (ih (s.shedChannel c cause) (by omega)) (fun x => ?_) fun x hx => hx
      by_cases hx : x = c
      · subst hx
        simp [hheld, hcand]
      · simp only [hx, false_or, hrecords, PerChan.get_set_ne _ _ hx]

/-- The sheds of the excess (R49 step 2, R136 step 3). -/
theorem shedExcess_spec (s : State) :
    let order := s.shedExcess.2.map (·.1)
    s.budget.InRank s.budget.Excess order ∧ ShedsDone .budget s s.shedExcess.1 order
    ∧ s.shedExcess.2.map (fun x => (some x.1, x.2)) = shedNotices .budget s s.shedExcess.1 s.budget.committed order := by
  obtain ⟨-, -, hdone, hnotices⟩ := State.shedWhile_spec .budget anyHeld Budget.excess 8 s
  exact ⟨shedWhile_excess_inRank 8 s s.budget.heldCount_le, hdone, hnotices⟩

/-- The sheds for the SHED line (R43, R136 step 4). -/
theorem shedForLine_spec (s : State) :
    let order := s.shedForLine.2.map (·.1)
    s.budget.InRank s.budget.Sheddable order ∧ ShedsDone .line s s.shedForLine.1 order
    ∧ s.shedForLine.2.map (fun x => (some x.1, x.2)) = shedNotices .line s s.shedForLine.1 s.budget.committed order := by
  obtain ⟨-, -, hdone, hnotices⟩ := State.shedWhile_spec .line shedLineCandidate (fun _ => true) 8 s
  refine ⟨?_, hdone, hnotices⟩
  have h := shedWhile_all_inRank (cause := .line) (cand := shedLineCandidate) 8 s s.budget.heldCount_le
  simp only [shedLineCandidate, decide_eq_true_eq] at h
  exact h

/-! The notices that an event posts. -/

theorem State.postAll_notices (s : State) (l : List (Option Chan × NoticeBody)) :
    (s.postAll l).notices = l.foldl (fun u x => u.post s.uptime x.1 x.2) s.notices := by
  induction l generalizing s with
  | nil => rfl
  | cons x rest ih =>
    rw [State.postAll, ih, List.foldl_cons]
    rfl

theorem State.postAll_eq (s : State) (l : List (Option Chan × NoticeBody)) :
    s.postAll l = { s with notices := (s.postAll l).notices } := by
  induction l generalizing s with
  | nil => rfl
  | cons x rest ih => exact ih (s.post x.1 x.2)

/-! The SHED line and the overload hold timer (R42 to R44, R47). -/

theorem State.requeues_decide (s : State) (c : Chan) :
    (if s.requeues c = true then ChState.queued else ChState.off)
      = if (s.chan c).cfg.afterShed = .requeue ∧ (s.chan c).cfg.allowance ≤ s.budget.settings.limit then .queued else .off := by
  simp only [State.requeues_iff]

/-- What sheds leave of a channel that was not shed, and of one that was (R40). -/
theorem ShedsDone.chan {cause : ShedCause} {order : List Chan} (h : ShedsDone cause s t order) (c : Chan) :
    (c ∉ order → t.chan c = s.chan c ∧ t.budget.records.get c = s.budget.records.get c)
    ∧ (c ∈ order → t.budget.records.get c = none ∧ (t.chan c).gate = .off ∧ (t.chan c).lastOff = shedReason cause
        ∧ (t.chan c).state =
          if (s.chan c).cfg.afterShed = .requeue ∧ (s.chan c).cfg.allowance ≤ s.budget.settings.limit then .queued else .off) := by
  have hrecords := h.records c
  obtain ⟨honly, hshed, -⟩ := h
  refine ⟨fun hc => ⟨honly (.chan c) (by simpa using hc), hrecords.trans (if_neg hc)⟩, fun hc => ?_⟩
  obtain ⟨hchan, -, -⟩ := hshed c hc
  refine ⟨hrecords.trans (if_pos hc), congrArg Channel.gate hchan, ?_, ?_⟩
  · refine (congrArg Channel.lastOff hchan).trans ?_
    cases cause <;> rfl
  · rw [← State.requeues_decide]
    exact congrArg Channel.state hchan

theorem exec_shedFilterExpiry_due {deadline : Nat} (h : s.powered = true) (hf : s.budget.shedFilter = some deadline)
    (hd : deadline ≤ s.uptime) :
    exec .shedFilterExpiry s = .next
      (let t := s.onBudget fun b => { b with shedLevel := s.pins.shed, shedFilter := none }
      match s.budget.shedLevel, s.pins.shed with
      | .released, .asserted => t.shedAsserted.settle
      | .asserted, .released => t.shedReleased.settle
      | _, _ => t) := by
  rw [exec_shedFilterExpiry, live_powered h, State.shedFilterExpired, hf]
  exact congrArg Host.Outcome.next (if_pos (by simpa using hd))

theorem exec_overloadHoldExpiry_due {deadline : Nat} (h : s.powered = true) (hf : s.budget.holdTimer = some deadline)
    (hd : deadline ≤ s.uptime) : exec .overloadHoldExpiry s = .next s.overloadShed.settle := by
  rw [exec_overloadHoldExpiry, live_powered h, hf]
  exact congrArg Host.Outcome.next (if_pos (by simpa using hd))

/-- The assertion event: the sheds with their notices in rank, then the SHED_LINE notice (R43). -/
theorem State.shedAsserted_eq (a : State) :
    a.shedAsserted =
      (a.shedForLine.1.postAll
        (shedNotices .line a a.shedForLine.1 a.budget.committed (a.shedForLine.2.map (·.1)))).post none
        (.shedLine .asserted (Chan.all.filter fun c => (a.shedForLine.2.map (·.1)).contains c)) := by
  obtain ⟨-, -, hnotices⟩ := shedForLine_spec a
  rw [← hnotices, ← shedSet_eq]
  rfl

theorem overloadShed_none (h : s.budget.firstInRank overloadCandidate = none) :
    s.overloadShed =
      (s.onBudget fun b => { b with holdTimer := some (s.deadline b.settings.overloadHold) }).post none
        (.overload s.budget.overAverage s.budget.settings.limit true) := by
  simp only [State.overloadShed, State.onBudget, show (Budget.firstInRank { s.budget with
    holdTimer := some (s.deadline s.budget.settings.overloadHold) } overloadCandidate) = none from h]

theorem overloadShed_some (h : s.budget.firstInRank overloadCandidate = some (c, r)) :
    s.overloadShed =
      (let u := (s.onBudget fun b => { b with holdTimer := some (s.deadline b.settings.overloadHold) }).post (some c)
        (.overload s.budget.overAverage s.budget.settings.limit false)
      (u.shedChannel c .overload).post (some c) (shedNotice u (u.shedChannel c .overload) c r .overload)) := by
  simp only [State.overloadShed, State.onBudget, show (Budget.firstInRank { s.budget with
    holdTimer := some (s.deadline s.budget.settings.overloadHold) } overloadCandidate) = some (c, r) from h]

/-- A shed does not look at the notices. -/
theorem State.shedChannel_withNotices (s : State) (v : Notices) (c : Chan) (cause : ShedCause) :
    ({ s with notices := v }.shedChannel c cause) = { s.shedChannel c cause with notices := v } := by
  by_cases h : (s.chan c).cfg.afterShed = .requeue ∧ (s.chan c).cfg.allowance ≤ s.budget.settings.limit
  · refine (if_pos h).trans ?_
    rw [State.shedChannel, if_pos h]
    rfl
  · refine (if_neg h).trans ?_
    rw [State.shedChannel, if_neg h]
    rfl

/-- Settles O41. -/
theorem shedEvents : Obligations.ShedEvents := by
  refine ⟨fun s deadline h hf hd => ⟨fun hl hp => ?_, fun hl hp => ?_, fun hl => ?_⟩, fun s deadline h hf hd => ?_⟩
  · intro a
    obtain ⟨hrank, hdone, -⟩ := shedForLine_spec a
    refine ⟨a.shedForLine.2.map (·.1), a.shedForLine.1, hrank, hdone, ?_, fun c => ⟨fun hc => ?_, fun r hr hc => ?_⟩⟩
    · rw [exec_shedFilterExpiry_due h hf hd, hl, hp]
      exact congrArg (fun t : State => Host.Outcome.next t.settle) a.shedAsserted_eq
    · refine (hdone.chan c).1 fun hm => ?_
      obtain ⟨r, hr, hcls⟩ := (hrank.mem_iff c).1 hm
      have := hc r hr
      omega
    · exact (hdone.chan c).2 ((hrank.mem_iff c).2 ⟨r, hr, hc⟩)
  · rw [exec_shedFilterExpiry_due h hf hd, hl, hp]
    rfl
  · have same (x : Level) (t u v : State) : (match x, x with
        | .released, .asserted => u | .asserted, .released => v | _, _ => t) = t := by cases x <;> rfl
    rw [exec_shedFilterExpiry_due h hf hd, ← hl]
    exact congrArg Host.Outcome.next (same _ _ _ _)
  · intro b a
    refine ⟨fun hno => ?_, fun c r hfirst => ?_⟩
    · have hnone : b.firstInRank overloadCandidate = none := by
        refine Option.eq_none_iff_forall_ne_some.2 fun ⟨c, r⟩ hf => ?_
        obtain ⟨hheld, hcand⟩ := b.firstInRank_some hf
        exact hno c r hheld (by simpa [overloadCandidate] using hcand)
      rw [exec_overloadHoldExpiry_due h hf hd, overloadShed_none hnone]
      rfl
    · obtain ⟨hheld, -⟩ := b.firstInRank_some hfirst
      obtain ⟨hrecords, -⟩ := a.shedChannel_kept c .overload
      have hdone := a.shedChannel_done c .overload
      have hcommitted : (a.shedChannel c .overload).budget.committed = b.committed - r.amount :=
        Budget.committed_drop (b := a.budget) hheld hrecords
      obtain ⟨-, -, -, -, htimer⟩ := hdone.budget_kept
      refine ⟨a.shedChannel c .overload, hdone, htimer, ?_⟩
      rw [exec_overloadHoldExpiry_due h hf hd, overloadShed_some hfirst, ← hcommitted]
      have hnotices := a.shedChannel_withNotices
        (s.notices.post s.uptime (some c) (.overload b.overAverage b.settings.limit false)) c .overload
      have huptime : (a.shedChannel c .overload).uptime = s.uptime := a.shedChannel_only c .overload .uptime (by simp)
      refine congrArg (fun t : State => Host.Outcome.next t.settle) ?_
      dsimp only
      rw [show (State.post (s.onBudget _) (some c) _) = { a with notices := s.notices.post s.uptime (some c) _ } from rfl,
        hnotices, ← huptime]
      rfl

end Sys2Proof.Machine
end

section
/-! Proofs: BUDGET_CONFIG (R48, R49). -/

namespace Sys2Proof.Machine
variable {s : State} {e : ReqEntry}

/-! The removals (R49 step 3). -/

/-- A channel whose entry exceeds the limit (R5, R32). -/
def Channel.removed (k : Channel) : Channel := { k.quiesce with state := .off, lastOff := .budget }

/-- The CHANNEL_STATE notice of a removal, by the state that the channel left. -/
def removalNotice (left : ChState) : NoticeBody := .channelState left .off .budget .budget

theorem State.removeEntry_spec (s : State) (c : Chan) :
    (∀ d, (s.removeEntry c).chan d = if d = c then (s.chan c).removed else s.chan d)
    ∧ (s.removeEntry c).budget = s.budget.drop c ∧ (s.removeEntry c).uptime = s.uptime
    ∧ (s.removeEntry c).notices = s.notices.post s.uptime (some c) (removalNotice (s.chan c).state) := by
  obtain ⟨hleft, hbudget, hother⟩ := s.leave_spec c .off .budget
  refine ⟨fun d => ?_, hbudget, rfl, ?_⟩
  · split
    · next hd => exact hd ▸ hleft
    · next hd => exact hother d hd
  · show s.notices.post s.uptime (some c) (.channelState _ ((s.leave c .off .budget).chan c).state _
      ((s.leave c .off .budget).chan c).lastOff) = _
    rw [hleft]
    rfl

/-- What the removals leave, one after another. -/
theorem State.removeEntries_spec (cs : List Chan) (s : State) :
    (∀ c, (s.removeEntries cs).chan c = if c ∈ cs then (s.chan c).removed else s.chan c)
    ∧ (s.removeEntries cs).budget = cs.foldl Budget.drop s.budget
    ∧ (cs.Nodup → (s.removeEntries cs).notices
        = cs.foldl (fun v c => v.post s.uptime (some c) (removalNotice (s.chan c).state)) s.notices) := by
  induction cs generalizing s with
  | nil => exact ⟨fun c => by simp [State.removeEntries], rfl, fun _ => rfl⟩
  | cons d rest ih =>
    obtain ⟨h1, h2, h3, h4⟩ := s.removeEntry_spec d
    obtain ⟨i1, i2, i3⟩ := ih (s.removeEntry d)
    refine ⟨fun c => (i1 c).trans ?_, i2.trans (by rw [h2, List.foldl_cons]), fun hnodup => ?_⟩
    · rw [h1]
      by_cases hc : c = d
      · subst hc
        simp only [if_true, List.mem_cons, true_or]
        split <;> rfl
      · simp only [hc, if_false, List.mem_cons, false_or]
    · obtain ⟨hd, hrest⟩ := List.nodup_cons.1 hnodup
      refine (i3 hrest).trans ?_
      rw [h3, h4, List.foldl_cons]
      refine List.foldl_ext _ _ _ fun v c hc => ?_
      rw [h1, if_neg (ne_of_mem_of_not_mem hc hd)]

/-! No channel has two entries, so that none is removed twice (R30). -/

theorem BudgetAgrees.queue_nodup (h : BudgetAgrees s) : (s.budget.queue.map (·.chan)).Nodup := by
  refine List.nodup_iff_count_le_one.2 fun c => ?_
  rw [List.count, List.countP_map, List.countP_eq_length_filter]
  show (s.budget.entriesOf c).length ≤ 1
  cases hq : s.budget.entriesOf c with
  | nil => simp
  | cons x rest =>
    have hx : x ∈ s.budget.entriesOf c := by simp [hq]
    obtain ⟨-, -, hone, -⟩ := Agrees.of_entry (h c) hx
    rw [← hq, show s.budget.entriesOf c = [x] from hone]
    simp

theorem BudgetAgrees.shedChannel (h : BudgetAgrees s) (c : Chan) (cause : ShedCause) : BudgetAgrees (s.shedChannel c cause) := by
  have hleft : BudgetAgrees (s.leave c .off (shedReason cause)) := h.leave c (.inr (.inl rfl)) _
  unfold State.shedChannel
  split
  · refine BudgetAgrees.joinQueue hleft ?_ _
    rw [(s.leave_spec c .off (shedReason cause)).1]
    exact .inr (.inl rfl)
  · exact hleft

theorem BudgetAgrees.shedWhile {cause : ShedCause} {cand : Reservation → Bool} {more : Budget → Bool} (n : Nat)
    (h : BudgetAgrees s) : BudgetAgrees (State.shedWhile cause cand more n s).1 := by
  induction n generalizing s with
  | zero => exact h
  | succ n ih =>
    unfold State.shedWhile
    split
    · split
      · exact h
      · next c r _ => exact ih (h.shedChannel c cause)
    · exact h

theorem BudgetAgrees.shedExcess (h : BudgetAgrees s) : BudgetAgrees s.shedExcess.1 := h.shedWhile 8

/-! The request. -/

theorem serveBudgetConfig_refused {id : Nat} {x : BudgetSettings × Bool} {status : Status}
    (h : budgetRefusal s x.1 x.2 = some status) :
    serveBudgetConfig id x s = (s, answer status (totalsFields s.budget ++ be 1 0 ++ be 1 0)) := by
  simp only [serveBudgetConfig, h]

theorem serveBudgetConfig_accepted {id : Nat} {x : BudgetSettings × Bool} (h : budgetRefusal s x.1 x.2 = none) :
    serveBudgetConfig id x s =
      (let r := s.applyBudget x.1
      (r.1, answer .ok (totalsFields r.1.budget ++ be 1 (maskOf r.2.1) ++ be 1 (maskOf r.2.2)))) := by
  simp only [serveBudgetConfig, h]

/-- The refusals of BUDGET_CONFIG in their order (R48). -/
theorem budgetRefusal_outcomes (s : State) (b : BudgetSettings) (force : Bool) :
    (s.profile.saveState ≠ .idle → budgetRefusal s b force = some .profileBusy)
    ∧ (s.profile.saveState = .idle → b.slots < s.budget.slotsInUse → budgetRefusal s b force = some .slotsInUse)
    ∧ (s.profile.saveState = .idle → s.budget.slotsInUse ≤ b.slots → b.limit < s.budget.committed → force = false →
        budgetRefusal s b force = some .budgetInUse)
    ∧ (s.profile.saveState = .idle → s.budget.slotsInUse ≤ b.slots → s.budget.committed ≤ b.limit ∨ force = true →
        budgetRefusal s b force = none) := by
  have idle (hi : s.profile.saveState = .idle) : ¬s.profile.busy = true := by simp [Profile.busy_idle hi]
  refine ⟨fun hb => if_pos (Profile.busy_saving hb), fun hi hl => (if_neg (idle hi)).trans (if_pos hl), fun hi hs hl hf => ?_,
    fun hi hs hl => ?_⟩
  · exact (if_neg (idle hi)).trans ((if_neg (by omega)).trans (if_pos ⟨hl, hf⟩))
  · refine (if_neg (idle hi)).trans ((if_neg (by omega)).trans (if_neg fun ⟨hl', hf⟩ => ?_))
    rcases hl with hl | hl
    · omega
    · simp [hf] at hl

/-- The state of an accepted BUDGET_CONFIG before the end of its event, from what its sheds leave (R49). -/
def State.budgetApplied (u : State) (removed : List Chan) : State :=
  (((u.removeEntries removed).onBudget fun b => b.capBypass.retestBus).markUnsaved).onBudget fun b => { b with scanDue := true }

theorem maskOf_shedSet (sheds : List (Chan × NoticeBody)) : maskOf (shedSet sheds) = maskOf (sheds.map (·.1)) := by
  have h (cs : List Chan) : maskOf (Chan.all.filter cs.contains) = maskOf cs := by
    unfold maskOf
    congr 1
    refine List.map_congr_left fun c _ => ?_
    rw [Bool.eq_iff_iff]
    simp
  rw [shedSet_eq]
  exact h _

theorem State.applyBudget_eq (s : State) (x : BudgetSettings) :
    s.applyBudget x =
      (let d := (s.onBudget fun b => { b with settings := x }).shedExcess
      let t := d.1.postSheds d.2
      (t.budgetApplied t.budget.tooLarge, shedSet d.2, t.budget.tooLarge)) := rfl

theorem retestBus_eq (b : Budget) :
    { b.retestBus with scanDue := true } = { b with
      busGood := match b.lastBus with
        | some v => decide (b.settings.busMinimum ≤ v)
        | none => b.busGood
      scanDue := true } := by
  have hkept (good : Bool) :
      { b.retestBus with busGood := good, scanDue := true } = { b with busGood := good, scanDue := true } := by
    unfold Budget.retestBus
    split <;> rfl
  have hgood : b.retestBus.busGood = match b.lastBus with
      | some v => decide (b.settings.busMinimum ≤ v)
      | none => b.busGood := by
    unfold Budget.retestBus
    cases b.lastBus <;> rfl
  rw [← hgood]
  exact hkept b.retestBus.busGood

/-- What the removals and the later steps of BUDGET_CONFIG leave (R49 steps 3 to 7). -/
theorem State.budgetApplied_spec (u : State) (removed : List Chan) :
    let t := u.budgetApplied removed
    OnlyChanges ([.budget, .notices, .profile] ++ Chan.all.map Part.chan) u t
    ∧ t.profile = { u.profile with unsaved := true }
    ∧ (∀ c, t.chan c = if c ∈ removed then (u.chan c).removed else u.chan c)
    ∧ t.budget = { u.budget with
        records := PerChan.ofFn fun c => if c ∈ removed then none else u.budget.records.get c
        claims := u.budget.claims.filter fun x => decide (x.chan ∉ removed)
        queue := (u.budget.queue.filter fun x => decide (x.chan ∉ removed)).map fun x =>
          { x with bypass := min x.bypass u.budget.settings.bypassLimit }
        busGood := match u.budget.lastBus with
          | some v => decide (u.budget.settings.busMinimum ≤ v)
          | none => u.budget.busGood
        scanDue := true }
    ∧ (removed.Nodup → t.notices
        = removed.foldl (fun v c => v.post u.uptime (some c) (removalNotice (u.chan c).state)) u.notices) := by
  obtain ⟨h1, h2, h3⟩ := u.removeEntries_spec removed
  refine ⟨?_, ?_, h1, ?_, h3⟩
  · exact ((((u.removeEntries_only removed).append (State.onBudget_only _ _)).append (State.onProfile_only _ _)).append
      (State.onBudget_only _ _)).mono fun p hp => by cases p <;> simp_all
  · have hkept : (u.removeEntries removed).profile = u.profile := u.removeEntries_only removed .profile (by simp)
    show { (u.removeEntries removed).profile with unsaved := true } = _
    rw [hkept]
  · show { (u.removeEntries removed).budget.capBypass.retestBus with scanDue := true } = _
    rw [h2, foldl_drop, retestBus_eq]
    rfl

/-- Settles O32: the sheds by `shedExcess_spec`, the rest by `State.budgetApplied_spec`. -/
theorem budgetConfigOutcomes : Obligations.BudgetConfigOutcomes := by
  intro s e b force h hp refused
  have refusedBy {st : Status} (hr : budgetRefusal s b force = some st) : refused st :=
    exec_served exec_budgetConfig h hp (serveBudgetConfig_refused (s := s.afterBoundary) (x := (b, force)) hr)
  obtain ⟨h1, h2, h3, h4⟩ := budgetRefusal_outcomes s b force
  refine ⟨fun hb => refusedBy (h1 hb), fun hi hs => refusedBy (h2 hi hs), fun hi hs hl hf => refusedBy (h3 hi hs hl hf),
    fun hi hs hl => ?_⟩
  intro a
  obtain ⟨hrank, hdone, hnotices⟩ := shedExcess_spec a
  have hshedOnly : OnlyChanges (.budget :: (a.shedExcess.2.map (·.1)).map Part.chan) a a.shedExcess.1 := hdone.1
  obtain ⟨hsettings, -, hgood, hlast, -⟩ := hdone.budget_kept
  generalize horder : a.shedExcess.2.map (·.1) = order at hrank hdone hnotices hshedOnly
  generalize hu : a.shedExcess.1 = u at hdone hnotices hshedOnly hsettings hgood hlast
  let v := a.shedExcess.1.postSheds a.shedExcess.2
  let removed := v.budget.tooLarge
  have hserve : s.afterBoundary.applyBudget b = (v.budgetApplied removed, shedSet a.shedExcess.2, removed) :=
    State.applyBudget_eq _ _
  have hposted : v = u.postAll (shedNotices .budget a u a.budget.committed order) := by
    rw [← hnotices, ← hu]
    rfl
  have hv : v = { u with notices := (a.postAll (shedNotices .budget a u s.budget.committed order)).notices } := by
    rw [hposted, State.postAll_eq, State.postAll_notices, State.postAll_notices,
      show u.uptime = a.uptime from hshedOnly .uptime (by simp), show u.notices = a.notices from hshedOnly .notices (by simp)]
    rfl
  have hvchan (c : Chan) : v.chan c = u.chan c := by rw [hv]; rfl
  have hvbudget : v.budget = u.budget := by rw [hv]
  have hvprofile : v.profile = s.profile := by rw [hv]; exact hshedOnly .profile (by simp)
  have hvuptime : v.uptime = s.uptime := by rw [hv]; exact hshedOnly .uptime (by simp)
  have hremoved : removed = (u.budget.queue.filter fun x => decide (b.limit < x.allowance)).map (·.chan) := by
    show v.budget.tooLarge = _
    rw [hvbudget, Budget.tooLarge, hsettings]
  obtain ⟨k1, k2, k3, k4, k5⟩ := v.budgetApplied_spec removed
  have hbudget : (v.budgetApplied removed).budget = { u.budget with
      records := PerChan.ofFn fun c => if c ∈ removed then none else u.budget.records.get c
      claims := u.budget.claims.filter fun x => decide (x.chan ∉ removed)
      queue := (u.budget.queue.filter fun x => decide (x.chan ∉ removed)).map fun x =>
        { x with bypass := min x.bypass b.bypassLimit }
      busGood := match s.budget.lastBus with
        | some v => decide (b.busMinimum ≤ v)
        | none => s.budget.busGood
      scanDue := true } := by
    rw [k4, hvbudget, hsettings, hlast, hgood]
  have hinForce : (v.budgetApplied removed).budget.settings = b := by rw [hbudget]; exact hsettings
  refine ⟨order, u, v.budgetApplied removed, hrank, hdone, ?_⟩
  rw [← hremoved]
  refine ⟨?_, ?_, k2.trans (by rw [hvprofile]), fun c => (k3 c).trans (by rw [hvchan]; rfl), hbudget, fun hagree => ?_, ?_, ?_,
    fun hle => ?_⟩
  · rw [exec_served exec_budgetConfig h hp (serveBudgetConfig_accepted (s := s.afterBoundary) (x := (b, force)) (h4 hi hs hl)),
      hserve, maskOf_shedSet, horder, totalsFields, Budget.headroom, hinForce]
  · have hbefore : OnlyChanges [.within, .budget] s a :=
      s.afterBoundary_only.append (State.onBudget_only _ fun _ => { s.budget with settings := b })
    have hnotice : OnlyChanges [.notices] u v := hposted ▸ State.postAll_only u _
    exact (((hbefore.append hshedOnly).append hnotice).append k1).mono fun p hp => by cases p <;> simp at hp ⊢
  · have hagreeA : BudgetAgrees a := fun c => hagree c
    have hagreeU : BudgetAgrees u := hu ▸ hagreeA.shedExcess
    have hnodup : removed.Nodup := hremoved ▸ hagreeU.queue_nodup.sublist (List.filter_sublist.map _)
    refine (k5 hnodup).trans ?_
    rw [hvuptime, show v.notices = (a.postAll (shedNotices .budget a u s.budget.committed order)).notices by rw [hv]]
    simp only [hvchan]
    rfl
  · have hwithin := (applyBudget_within (s := s.afterBoundary) b hs).1
    rw [hserve, hinForce] at hwithin
    exact hwithin
  · intro x hx
    rw [hbudget] at hx
    obtain ⟨y, hy, rfl⟩ := List.mem_map.1 hx
    obtain ⟨hmem, hkept⟩ := List.mem_filter.1 hy
    refine ⟨Nat.le_of_not_lt fun hlarge => of_decide_eq_true hkept ?_, Nat.min_le_right _ _⟩
    rw [hremoved]
    exact List.mem_map_of_mem (List.mem_filter.2 ⟨hmem, decide_eq_true hlarge⟩)
  · refine List.eq_nil_iff_forall_not_mem.2 fun c hc => ?_
    obtain ⟨-, hmore⟩ := (hrank.mem_iff c).1 hc
    have hmost : a.budget.amountFrom c ≤ s.budget.committed := a.budget.amountFrom_le c
    exact absurd (Nat.lt_of_lt_of_le hmore hmost) (Nat.not_lt.2 hle)

end Sys2Proof.Machine
end

section
/-! Proofs: the loss and the return of the supply, and the controller restart (R25, R51, R52, R125, R132, R135 to R137). -/

namespace Sys2Proof.Machine
variable {s : State}

/-! The joins of a start. -/

theorem Chan.nodup_length_le {cs : List Chan} (h : cs.Nodup) : cs.length ≤ 8 :=
  (h.subperm fun c _ => Chan.mem_all c).length_le

theorem ascending_classOrder {w : PerChan ChannelConfig} (h : ∀ c, (w.get c).cls ≤ 3) (p : Chan → Bool) :
    ascending ((classOrder w).filter p) = Chan.all.filter p := by
  refine List.filter_congr fun c _ => ?_
  rw [Bool.eq_iff_iff]
  simp [List.mem_filter, mem_classOrder h]

/-- The entries of a start are those of the channels that join. -/
theorem startQueue_chan {w : WorkingConfig} {origin : Origin} {joins : Chan → Bool} {x : Waiting}
    (hx : x ∈ startQueue w origin joins) : joins x.chan = true := by
  obtain ⟨y, hy, rfl⟩ := List.mem_map.1 hx
  have hmem := List.fst_mem_of_mem_zipIdx hy
  rw [← classOrder_filter] at hmem
  exact (List.mem_filter.1 hmem).2

theorem startQueue_length (w : WorkingConfig) (origin : Origin) (joins : Chan → Bool) :
    (startQueue w origin joins).length = ((classOrder w.channels).filter joins).length := by
  rw [startQueue, List.length_map, List.length_zipIdx, classOrder_filter]

theorem startQueue_isEmpty (w : WorkingConfig) (origin : Origin) (joins : Chan → Bool) :
    (startQueue w origin joins).isEmpty = ((classOrder w.channels).filter joins).isEmpty := by
  rw [Bool.eq_iff_iff, List.isEmpty_iff_length_eq_zero, List.isEmpty_iff_length_eq_zero, startQueue_length]

theorem startQueue_find?_none {w : WorkingConfig} {origin : Origin} {joins : Chan → Bool} {c : Chan} (h : joins c = false) :
    ((startQueue w origin joins).find? fun x => x.chan == c) = none := by
  refine List.find?_eq_none.2 fun x hx hc => ?_
  have hjoins := startQueue_chan hx
  rw [show x.chan = c by simpa using hc, h] at hjoins
  cases hjoins

/-- The joins of a start, of the channels of a set that fit, in class order and then channel-number order (R31, R132, R135). -/
theorem startJoins_atStart {t : State} {w : WorkingConfig} {origin : Origin} (ho : origin ≠ .requeue)
    (hcls : ∀ c, (w.channels.get c).cls ≤ 3) (hcfg : ∀ c, (t.chan c).cfg = w.channels.get c)
    (hsettings : t.budget.settings = w.budget) (hqueue : t.budget.queue = []) (hnext : t.budget.nextJoin = 0)
    (huptime : t.uptime = 0) (p : Chan → Bool) :
    let fits := fun c => decide ((w.channels.get c).allowance ≤ w.budget.limit)
    let joins := fun c => p c && fits c
    let queue := startQueue w origin joins
    let r := State.startJoins origin ((classOrder w.channels).filter p) t
    ascending r.2 = Chan.all.filter joins
    ∧ r.1.budget = { t.budget with
        queue := queue, nextJoin := queue.length, scanDue := t.budget.scanDue || !queue.isEmpty }
    ∧ ∀ c, r.1.chan c =
        { t.chan c with
          state := if joins c then .queued else if p c then .off else (t.chan c).state
          lastOff := if p c && !fits c then .budget else (t.chan c).lastOff
          joinNumber := ((queue.find? fun x => x.chan == c).map (·.joinNumber)).getD (t.chan c).joinNumber } := by
  intro fits joins queue r
  have hnodup : ((classOrder w.channels).filter p).Nodup := (classOrder_nodup _).filter _
  obtain ⟨h1, h2, h3⟩ := State.startJoins_spec ho ((classOrder w.channels).filter p) t hnodup
    (by simpa only [hcfg] using (classOrder_sorted w.channels).sublist List.filter_sublist)
    (by simp [hqueue]) (by have := Chan.nodup_length_le hnodup; omega)
  have hfits : (fun c => decide ((t.chan c).cfg.allowance ≤ t.budget.settings.limit)) = fits := by
    funext c
    simp only [hcfg, hsettings, fits]
  have hjoined : ((classOrder w.channels).filter p).filter fits = (classOrder w.channels).filter joins := by
    rw [List.filter_filter]
    exact List.filter_congr fun c _ => Bool.and_comm ..
  have hentries : ((((classOrder w.channels).filter p).filter fits).zipIdx t.budget.nextJoin).map (t.startEntry origin) = queue := by
    rw [hjoined, classOrder_filter, hnext]
    refine List.map_congr_left fun x _ => ?_
    simp only [State.startEntry, hcfg, huptime]
  rw [hfits] at h1 h2 h3
  rw [hentries] at h2 h3
  refine ⟨by rw [h1, hjoined, ascending_classOrder hcls], ?_, fun c => (h3 c).trans ?_⟩
  · rw [h2, hjoined, hqueue, hnext, ← startQueue_length w origin, ← startQueue_isEmpty w origin, List.nil_append, Nat.zero_add]
  · have hmem : c ∈ (classOrder w.channels).filter p ↔ p c = true := by simp [List.mem_filter, mem_classOrder hcls]
    have hnone (hj : joins c = false) : (queue.find? fun x => x.chan == c) = none := startQueue_find?_none hj
    cases hp : p c with
    | false =>
      have hj : joins c = false := by simp [joins, hp]
      rw [if_neg (by simp [hmem, hp]), hnone hj, hj]
      rfl
    | true =>
      rw [if_pos (hmem.2 hp)]
      cases hf : fits c with
      | false =>
        have hj : joins c = false := by simp [joins, hf]
        rw [hnone hj, hj]
        rfl
      | true =>
        have hj : joins c = true := by simp [joins, hp, hf]
        rw [hj]
        rfl

/-! The loss and the return of the supply (R129, R132). -/

theorem fillWindow_closed {u : Notices} (h : u.sessionOpen = false) : u.fillWindow = u := if_neg (by simp [h])

/-- The RESTARTED notice is the first of an empty queue (R137, R163). -/
theorem startNotices_post (w : WorkingConfig) {body : NoticeBody} (hk : body.kind.index = 12) (hc : body.cls = .urgent) :
    (startNotices w).post 0 none body =
      if w.subscriptions.getLsbD 12 then
        { startNotices w with
          queue := [⟨0, .urgent, 0, none, body, 0, .unsent, false⟩], nextNseq := 1, attn := .asserted }
      else startNotices w := by
  rw [← hk]
  by_cases hs : w.subscriptions.getLsbD body.kind.index = true
  · refine (if_pos hs).trans (Eq.trans ?_ (if_pos hs).symm)
    have hattn : attnLevel ((startNotices w).join 0 none body).queue = .asserted :=
      (attnLevel_asserted _).2 ⟨_, List.mem_singleton_self _, hc⟩
    rw [Notices.meetQueue_room (show (startNotices w).queue.length < 24 from Nat.succ_pos 23), fillWindow_closed rfl, Notices.setAttn, hattn,
      ← hc]
    rfl
  · exact (if_neg hs).trans (if_neg hs).symm

/-- What a start gives stays where only the channels, the Budget Manager and the notices change. -/
theorem StartsAfresh.congr {w : WorkingConfig} {t u : State} (h : StartsAfresh w t)
    (honly : OnlyChanges ([.budget, .notices] ++ Chan.all.map Part.chan) t u) : StartsAfresh w u := by
  have huptime : u.uptime = t.uptime := honly .uptime (by simp)
  have hwithin : u.within = t.within := honly .within (by simp)
  have hdeliveries : u.deliveries = t.deliveries := honly .deliveries (by simp)
  have hschedule : u.schedule = t.schedule := honly .schedule (by simp)
  have hmeter : u.meter = t.meter := honly .meter (by simp)
  have hwatches : u.watches = t.watches := honly .watches (by simp)
  have hsampler : u.sampler = t.sampler := honly .sampler (by simp)
  have hlink : u.link = t.link := honly .link (by simp)
  unfold StartsAfresh
  rw [huptime, hwithin, hdeliveries, hschedule, hmeter, hwatches, hsampler, hlink]
  exact h

theorem Profile.start_generation (p : Profile) :
    p.loadedGeneration = match p.current with | some k => (p.record k).generation | none => 0 := by
  unfold Profile.loadedGeneration
  cases p.current <;> rfl

/-- Settles O37. -/
theorem supplyLossAndReturn : Obligations.SupplyLossAndReturn := by
  intro s
  refine ⟨⟨s.powerLost, exec_powerLoss s, rfl, rfl, rfl, rfl, rfl, rfl, fun c => ?_, rfl, rfl, rfl, rfl, rfl⟩, ?_⟩
  · cases c <;> exact ⟨rfl, rfl⟩
  intro p w cfg joins queue generation hcls
  let t := s.powerLost.atPowerOn
  let r := State.startJoins .profile (autoStarts w.channels) t
  let body : NoticeBody := .restarted .powerOn p.source generation (Chan.all.filter joins) [] [] [] s.pins.shed
  have hchan (c : Chan) : t.chan c = Channel.atPowerOn (cfg c) := PerChan.get_ofFn ..
  obtain ⟨h1, h2, h3⟩ := startJoins_atStart (t := t) (w := w) (origin := .profile) (by simp) hcls
    (fun c => by rw [hchan]; rfl) rfl rfl rfl rfl fun c => (cfg c).enabled && (cfg c).autoStart
  have hbudget : r.1.budget = { t.budget with
      queue := queue, nextJoin := queue.length, scanDue := t.budget.scanDue || !queue.isEmpty } := h2
  have honly : OnlyChanges ([.budget] ++ Chan.all.map Part.chan) t r.1 := State.startJoins_only t _ _
  have hgeneration : t.profile.loadedGeneration = generation := Profile.start_generation _
  have hpowerOn : s.powerLost.powerOn = (r.1.post none body).settle := by
    show (r.1.post none (.restarted .powerOn p.source t.profile.loadedGeneration (ascending r.2) [] [] [] s.pins.shed)).settle = _
    rw [hgeneration, show ascending r.2 = Chan.all.filter joins from h1]
  have hnotices : r.1.notices = startNotices w := honly .notices (by simp)
  have huptime : r.1.uptime = 0 := honly .uptime (by simp)
  have hposted : (r.1.post none body).notices = _ :=
    (congrArg₂ (fun (u : Notices) now => u.post now none body) hnotices huptime).trans (startNotices_post w rfl rfl)
  have hlink : r.1.link = t.link := honly .link (by simp)
  have hsettle := State.settle_atStart (s := r.1.post none body) (by rw [State.post_link, hlink]; rfl) (by
    rw [hposted]
    split <;> simp [startNotices]) (by
      show r.1.budget.busGood = false
      rw [hbudget]
      rfl)
  have honlyEnd : OnlyChanges ([.budget, .notices] ++ Chan.all.map Part.chan) t (r.1.post none body).settle := by
    rw [hsettle]
    exact ((honly.append (r.1.post_only none body)).append
      (State.onBudget_only _ fun b => { b with scanDue := false })).mono fun p hp => by cases p <;> simp at hp ⊢
  have hlinkEnd : (r.1.post none body).settle.link = t.link := honlyEnd .link (by simp)
  have hstart : StartsAfresh w t := ⟨rfl, rfl, rfl, rfl, rfl, rfl, rfl, rfl⟩
  refine ⟨(r.1.post none body).settle, hpowerOn ▸ exec_powerOn s, honlyEnd .powered (by simp), hstart.congr honlyEnd,
    honlyEnd .pins (by simp), honlyEnd .pending (by simp), honlyEnd .draws (by simp), ?_, ?_, fun c => ?_, ?_, ?_, ?_⟩
  · exact congrArg Link.stats hlinkEnd
  · exact (congrArg Link.nextId hlinkEnd).trans rfl
  · rw [hsettle]
    refine (h3 c).trans ?_
    rw [hchan]
    cases he : (cfg c).enabled <;> cases ha : (cfg c).autoStart <;>
      simp [Channel.atPowerOn, joins, queue, cfg, he, ha, Channel.reset]
  · rw [hsettle]
    show { r.1.budget with scanDue := false } = _
    rw [hbudget]
    rfl
  · exact honlyEnd .profile (by simp)
  · rw [hsettle]
    exact hposted

end Sys2Proof.Machine
end

section
/-! Proofs: the controller restart (R135 to R137). -/

namespace Sys2Proof.Machine

/-! The restart up to its joins: every channel and every block (R135, R136 steps 1 and 2). -/

/-- A channel is held ON through a controller restart. -/
def heldThrough (s : State) (w : WorkingConfig) (c : Chan) : Bool := (w.channels.get c).enabled && (s.chan c).state == .on

/-- A channel is to be queued again after a controller restart. -/
def rejoinsAfter (s : State) (w : WorkingConfig) (c : Chan) : Bool :=
  (w.channels.get c).enabled
    && ((s.chan c).state == .starting || (s.chan c).state == .cycleOff || (s.chan c).state == .queued)

/-- The configuration that a controller restart loads. -/
def State.restartConfig (s : State) : WorkingConfig := s.profile.start.loaded

/-- A controller restart up to its joins, with the channels that have joined. -/
def State.restartJoined (s : State) : State × List Chan :=
  State.startJoins .restart (restartJoins s.chans s.restartConfig.channels) s.atRestart

theorem restartJoins_eq (s : State) (w : WorkingConfig) :
    restartJoins s.chans w.channels = (classOrder w.channels).filter (rejoinsAfter s w) := by
  refine List.filter_congr fun c _ => ?_
  show ((w.channels.get c).enabled && match (s.chan c).state with
    | .starting | .cycleOff | .queued => true
    | .disabled | .off | .on | .cooldown | .latched => false) = _
  unfold rejoinsAfter
  cases (s.chan c).state <;> rfl

theorem restartJoined_only (s : State) :
    OnlyChanges ([.budget] ++ Chan.all.map Part.chan) s.atRestart s.restartJoined.1 := State.startJoins_only _ _ _

theorem atRestart_startsAfresh (s : State) : StartsAfresh s.restartConfig s.atRestart :=
  ⟨rfl, rfl, rfl, rfl, rfl, rfl, rfl, rfl⟩

/-- The allowance of a channel is within the loaded limit. -/
def fitsAfter (w : WorkingConfig) (c : Chan) : Bool := decide ((w.channels.get c).allowance ≤ w.budget.limit)

/-- The admission queue after the joins of a controller restart. -/
def restartQueue (s : State) (w : WorkingConfig) : List Waiting :=
  startQueue w .restart fun c => rejoinsAfter s w c && fitsAfter w c

/-- The joins of a controller restart. -/
theorem restartJoined_spec (s : State) (hcls : ∀ c, (s.restartConfig.channels.get c).cls ≤ 3) :
    let w := s.restartConfig
    let queue := restartQueue s w
    ascending s.restartJoined.2 = (Chan.all.filter fun c => rejoinsAfter s w c && fitsAfter w c)
    ∧ s.restartJoined.1.budget = { s.atRestart.budget with
        queue := queue, nextJoin := queue.length, scanDue := s.atRestart.budget.scanDue || !queue.isEmpty }
    ∧ ∀ c, s.restartJoined.1.chan c =
        { (s.chan c).atRestart (w.channels.get c) with
          state := if rejoinsAfter s w c && fitsAfter w c then .queued else ((s.chan c).atRestart (w.channels.get c)).state
          lastOff := if rejoinsAfter s w c && !fitsAfter w c then .budget
            else ((s.chan c).atRestart (w.channels.get c)).lastOff
          joinNumber := ((queue.find? fun x => x.chan == c).map (·.joinNumber)).getD (s.chan c).joinNumber } := by
  intro w queue
  obtain ⟨h1, h2, h3⟩ := startJoins_atStart (t := s.atRestart) (w := w) (origin := .restart) (by simp) hcls
    (fun c => by rw [atRestart_chan]; rfl) rfl rfl rfl rfl (rejoinsAfter s w)
  rw [← restartJoins_eq] at h1 h2 h3
  refine ⟨h1, h2, fun c => (h3 c).trans ?_⟩
  rw [atRestart_chan]
  have hoff (h : rejoinsAfter s w c = true) : ((s.chan c).atRestart (w.channels.get c)).state = .off := by
    unfold rejoinsAfter at h
    cases he : (w.channels.get c).enabled <;> cases hs : (s.chan c).state <;>
      simp_all [Channel.atRestart, restartState]
  have hstate : (if rejoinsAfter s w c = true then ChState.off else ((s.chan c).atRestart (w.channels.get c)).state)
      = ((s.chan c).atRestart (w.channels.get c)).state := by
    split
    · next h => exact (hoff h).symm
    · rfl
  rw [show s.atRestart.profile.loaded = w from rfl, hstate]
  rfl

theorem sum_map_filter {α : Type} (l : List α) (p : α → Bool) (f : α → Nat) :
    ((l.filter p).map f).sum = (l.map fun x => if p x then f x else 0).sum := by
  induction l with
  | nil => rfl
  | cons x l ih =>
    rw [List.filter_cons, List.map_cons, List.sum_cons, ← ih]
    cases p x <;> simp

/-! The sheds (R136 steps 3 and 4). -/

/-- The sheds of a controller restart: the excess in rank, then, with the SHED level ASSERTED, all that is left of class 1 to 3. -/
theorem restartSheds_spec (j : State) :
    ∃ order line u,
      j.budget.InRank j.budget.Excess order ∧ ShedsDone .budget j u order
      ∧ u.budget.InRank (fun c => j.budget.shedLevel = .asserted ∧ u.budget.Sheddable c) line
      ∧ ShedsDone .line u j.restartSheds.1 line
      ∧ j.restartSheds.2.map (fun x => (some x.1, x.2))
        = shedNotices .budget j u j.budget.committed order
          ++ shedNotices .line u j.restartSheds.1 u.budget.committed line
      ∧ j.restartSheds.2.map (·.1) = order ++ line := by
  obtain ⟨hrank, hdone, hnotices⟩ := shedExcess_spec j
  obtain ⟨-, hlevel, -⟩ := hdone.budget_kept
  obtain ⟨krank, kdone, knotices⟩ := shedForLine_spec j.shedExcess.1
  by_cases hl : j.budget.shedLevel = .asserted
  · have hsheds : j.restartSheds = (j.shedExcess.1.shedForLine.1, j.shedExcess.2 ++ j.shedExcess.1.shedForLine.2) :=
      if_pos (hlevel.trans hl)
    refine ⟨_, _, _, hrank, hdone, by simpa only [hl, true_and] using krank, ?_, ?_, ?_⟩
    · rw [hsheds]
      exact kdone
    · rw [hsheds, List.map_append, hnotices, knotices]
    · rw [hsheds, List.map_append]
  · have hsheds : j.restartSheds = j.shedExcess := if_neg fun h => hl (hlevel ▸ h)
    refine ⟨_, [], _, hrank, hdone, Budget.inRank_nil fun c h => hl h.1, ?_, ?_, ?_⟩
    · rw [hsheds]
      exact .nil _ _
    · rw [hsheds, hnotices, shedNotices, List.append_nil]
    · rw [hsheds, List.append_nil]

/-- The end of the event (R136 step 5, R137). -/
theorem controllerRestart_eq (s : State) (cause : RestartCause) :
    s.controllerRestart cause =
      (let j := s.restartJoined
      let d := j.1.restartSheds
      ((d.1.post none (.restarted cause s.profile.start.source s.profile.start.loadedGeneration [] (heldSet d.1) (ascending j.2)
        (shedSet d.2) s.budget.shedLevel)).postSheds d.2).settle) := rfl

/-! The table of R135. -/

theorem restartState_joined (enabled fits : Bool) (before : ChState) :
    (if enabled && (before == .starting || before == .cycleOff || before == .queued) && fits then ChState.queued
      else restartState enabled before)
    = if enabled = false then .disabled
      else if before = .on then .on
      else if before = .latched then .latched
      else if enabled && (before == .starting || before == .cycleOff || before == .queued) && fits then .queued
      else .off := by
  cases enabled <;> cases fits <;> cases before <;> rfl

theorem restartEnds_iff (enabled : Bool) (before : ChState) :
    restartEnds enabled before = true ↔
      before = .starting ∨ before = .cycleOff ∨ before = .queued ∨ before = .cooldown ∨ (before = .on ∧ enabled = false) := by
  cases enabled <;> cases before <;> simp [restartEnds]

theorem heldRecord_atRestart (k : Channel) (cfg : ChannelConfig) :
    heldRecord (k.atRestart cfg) =
      if cfg.enabled && k.state == .on then some ⟨cfg.allowance, cfg.cls, 0, .on, false, false, false⟩ else none := by
  have hheld : (k.atRestart cfg).state = .on ↔ (cfg.enabled && k.state == .on) = true := by
    show restartState cfg.enabled k.state = .on ↔ _
    cases cfg.enabled <;> cases k.state <;> simp [restartState]
  simp only [heldRecord, hheld]
  rfl

theorem atRestart_records (s : State) :
    s.atRestart.budget.records = PerChan.ofFn fun c =>
      if heldThrough s s.restartConfig c then
        some ⟨(s.restartConfig.channels.get c).allowance, (s.restartConfig.channels.get c).cls, 0, .on, false, false, false⟩
      else none := by
  ext1 c
  rw [PerChan.get_ofFn, show s.atRestart.budget.records.get c = heldRecord (s.atRestart.chan c) from PerChan.get_ofFn ..,
    atRestart_chan]
  exact heldRecord_atRestart _ _

/-- The Budget Manager after the joins of a controller restart (R52, R136). -/
theorem restartJoined_budget (s : State) (hcls : ∀ c, (s.restartConfig.channels.get c).cls ≤ 3) :
    let w := s.restartConfig
    s.restartJoined.1.budget =
      { State.reset.budget with
        settings := w.budget
        records := PerChan.ofFn fun c =>
          if heldThrough s w c then some ⟨(w.channels.get c).allowance, (w.channels.get c).cls, 0, .on, false, false, false⟩
          else none
        queue := restartQueue s w
        nextJoin := (restartQueue s w).length
        shedLevel := s.budget.shedLevel
        shedFilter := s.budget.shedFilter.map fun e => min 2 (e - s.uptime)
        scanDue := !(restartQueue s w).isEmpty } := by
  intro w
  obtain ⟨-, hbudget, -⟩ := restartJoined_spec s hcls
  rw [hbudget, ← atRestart_records]
  rfl

/-- A channel holds a record then exactly where it is held ON (R136 step 1). -/
theorem restartJoined_holds (s : State) (hcls : ∀ c, (s.restartConfig.channels.get c).cls ≤ 3) (c : Chan) :
    (s.restartJoined.1.budget.records.get c).isSome = true ↔ heldThrough s s.restartConfig c = true := by
  rw [restartJoined_budget s hcls, PerChan.get_ofFn]
  cases heldThrough s s.restartConfig c <;> simp

/-- What is committed then: the allowances of the channels held ON (R28, R136 step 1). -/
theorem restartJoined_committed (s : State) (hcls : ∀ c, (s.restartConfig.channels.get c).cls ≤ 3) :
    s.restartJoined.1.budget.committed
      = ((Chan.all.filter (heldThrough s s.restartConfig)).map fun c => (s.restartConfig.channels.get c).allowance).sum := by
  rw [sum_map_filter, restartJoined_budget s hcls]
  refine congrArg List.sum (List.map_congr_left fun c _ => ?_)
  rw [PerChan.get_ofFn]
  split <;> rfl

/-- What the sheds of a controller restart leave of each channel (R40, R41). -/
theorem restartSheds_chan {j u v : State} {order line : List Chan} {level : Prop}
    (o1 : j.budget.InRank j.budget.Excess order) (o2 : ShedsDone .budget j u order)
    (o3 : u.budget.InRank (fun c => level ∧ u.budget.Sheddable c) line) (o4 : ShedsDone .line u v line) (c : Chan) :
    (c ∉ order → c ∉ line → v.chan c = j.chan c ∧ v.budget.records.get c = j.budget.records.get c)
    ∧ (c ∈ order ∨ c ∈ line → (j.budget.records.get c).isSome = true ∧ v.budget.records.get c = none ∧ (v.chan c).gate = .off
        ∧ (v.chan c).lastOff = (if c ∈ order then .shedBudget else .shedLine)
        ∧ (v.chan c).state =
          if (j.chan c).cfg.afterShed = .requeue ∧ (j.chan c).cfg.allowance ≤ j.budget.settings.limit then .queued else .off) := by
  obtain ⟨hstays, hshed⟩ := o2.chan c
  obtain ⟨kstays, kshed⟩ := o4.chan c
  obtain ⟨hsettings, -⟩ := o2.budget_kept
  refine ⟨fun ho hl => ?_, fun h => ?_⟩
  · obtain ⟨h1, h2⟩ := hstays ho
    obtain ⟨k1, k2⟩ := kstays hl
    exact ⟨k1.trans h1, k2.trans h2⟩
  · by_cases ho : c ∈ order
    · obtain ⟨h1, h2, h3, h4⟩ := hshed ho
      have hl : c ∉ line := by
        intro hl
        obtain ⟨-, r, hr, -⟩ := (o3.mem_iff c).1 hl
        rw [h1] at hr
        cases hr
      obtain ⟨k1, k2⟩ := kstays hl
      rw [k1, k2, if_pos ho]
      exact ⟨((o1.mem_iff c).1 ho).1, h1, h2, h3, h4⟩
    · obtain ⟨h1, h2⟩ := hstays ho
      have hl : c ∈ line := h.resolve_left ho
      obtain ⟨-, r, hr, -⟩ := (o3.mem_iff c).1 hl
      obtain ⟨k1, k2, k3, k4⟩ := kshed hl
      rw [h2] at hr
      rw [if_neg ho, ← h1, ← hsettings]
      exact ⟨by rw [hr]; rfl, k1, k2, k3, k4⟩

/-- The end of a start's event: the RESTARTED notice, the notices of its sheds, and an end in which nothing is granted and no frame
goes out (R51, R136, R137, R150). -/
theorem startEvent_spec {v : State} {w : WorkingConfig} {body : NoticeBody} {sheds : List (Option Chan × NoticeBody)}
    (hnotices : v.notices = startNotices w) (huptime : v.uptime = 0) (hlink : v.link.queue = []) (hbus : v.budget.busGood = false)
    (hk : body.kind.index = 12) (hc : body.cls = .urgent) (hcount : sheds.length ≤ 16) :
    let t := ((v.post none body).postAll sheds).settle
    OnlyChanges [.notices, .budget] v t ∧ t.budget = { v.budget with scanDue := false } ∧ t.notices.sessionOpen = false
    ∧ (w.subscriptions.getLsbD 12 = true → ∃ rest, t.notices.queue = ⟨0, .urgent, 0, none, body, 0, .unsent, false⟩ :: rest) := by
  let n := (v.post none body).postAll sheds
  have hn : OnlyChanges [.notices] v n := ((v.post_only none body).append (State.postAll_only _ sheds)).mono (by simp)
  have hnlink : n.link = v.link := hn .link (by simp)
  have hnbudget : n.budget = v.budget := hn .budget (by simp)
  have hfirst : (v.post none body).notices = (startNotices w).post 0 none body :=
    congrArg₂ (fun (x : Notices) now => x.post now none body) hnotices huptime
  obtain ⟨hclosed, hqueue⟩ := (startNotices w).post_closed 0 none body rfl (Nat.succ_pos 23)
  rw [← hfirst] at hclosed hqueue
  have hroom : (v.post none body).notices.queue.length + sheds.length ≤ 24 := by
    have hone : (v.post none body).notices.queue.length ≤ 1 := by
      rw [hqueue]
      split <;> simp [startNotices]
    omega
  obtain ⟨hnclosed, new, hnqueue, hnew⟩ := State.postAll_closed sheds _ hclosed hroom
  have hsettle : n.settle = { n with budget := { n.budget with scanDue := false } } := by
    refine State.settle_atStart (by rw [hnlink, hlink]) (fun x hx => ?_) (by rw [hnbudget, hbus])
    rw [show n.notices.queue = _ from hnqueue, List.mem_append] at hx
    rcases hx with hx | hx
    · rw [hqueue] at hx
      split at hx
      · rw [show x = _ from List.mem_singleton.1 hx]
      · exact absurd hx List.not_mem_nil
    · exact hnew x hx
  intro t
  rw [show t = { n with budget := { n.budget with scanDue := false } } from hsettle]
  refine ⟨hn.append (State.onBudget_only n fun b => { b with scanDue := false }), ?_, hnclosed, fun hs => ⟨new, hnqueue.trans ?_⟩⟩
  · rw [← hnbudget]
  · rw [hqueue, hk, if_pos (show (startNotices w).subscriptions.getLsbD 12 = true from hs), hc]
    rfl

/-- Every channel after the joins of a controller restart (the table of R135). -/
theorem restartJoined_chan (s : State) (hcls : ∀ c, (s.restartConfig.channels.get c).cls ≤ 3) (c : Chan) :
    let w := s.restartConfig
    let cfg := w.channels.get c
    let k := s.chan c
    s.restartJoined.1.chan c =
      { k.atRestart cfg with
        state :=
          if cfg.enabled = false then .disabled
          else if k.state = .on then .on
          else if k.state = .latched then .latched
          else if rejoinsAfter s w c && fitsAfter w c then .queued
          else .off
        lastOff :=
          if rejoinsAfter s w c && !fitsAfter w c then .budget
          else if k.state = .starting ∨ k.state = .cycleOff ∨ k.state = .queued ∨ k.state = .cooldown
            ∨ (k.state = .on ∧ cfg.enabled = false) then .restart
          else k.lastOff
        joinNumber := (((restartQueue s w).find? fun x => x.chan == c).map (·.joinNumber)).getD k.joinNumber } := by
  intro w cfg k
  obtain ⟨-, -, hchan⟩ := restartJoined_spec s hcls
  have hstate := restartState_joined cfg.enabled (fitsAfter w c) k.state
  refine (hchan c).trans ?_
  simp only [← restartEnds_iff]
  unfold rejoinsAfter
  rw [← hstate]
  rfl

/-- What no start and no shed changes stands as at the start's values (R51, R52, R136). -/
theorem restartSheds_frame {s u v : State} {order line : List Chan} (hcls : ∀ c, (s.restartConfig.channels.get c).cls ≤ 3)
    (o2 : ShedsDone .budget s.restartJoined.1 u order) (o4 : ShedsDone .line u v line) :
    OnlyChanges ([.budget] ++ Chan.all.map Part.chan) s.restartJoined.1 v ∧ v.notices = startNotices s.restartConfig
    ∧ v.uptime = 0 ∧ v.link.queue = [] ∧ v.budget.settings = s.restartConfig.budget ∧ v.budget.busGood = false := by
  have hj := restartJoined_only s
  have hv : OnlyChanges ([.budget] ++ Chan.all.map Part.chan) s.restartJoined.1 v :=
    (o2.1.append o4.1).mono fun p hp => by cases p <;> simp at hp ⊢
  have hall := hj.trans hv
  obtain ⟨hus, -, hub, -⟩ := o2.budget_kept
  obtain ⟨hvs, -, hvb, -⟩ := o4.budget_kept
  refine ⟨hv, hall .notices (by simp), hall .uptime (by simp), ?_, ?_, ?_⟩
  · rw [show v.link = s.atRestart.link from hall .link (by simp)]
    rfl
  · rw [hvs, hus, restartJoined_budget s hcls]
  · rw [hvb, hub, restartJoined_budget s hcls]
    rfl

/-- The RESTARTED notice of a controller restart that leaves `v` before its notices (R137). -/
def restartedNotice (s v : State) (cause : RestartCause) (order line : List Chan) : NoticeBody :=
  .restarted cause s.profile.start.source s.profile.start.loadedGeneration [] (heldSet v)
    (Chan.all.filter fun c => rejoinsAfter s s.restartConfig c && fitsAfter s.restartConfig c)
    (Chan.all.filter fun c => order.contains c || line.contains c) s.budget.shedLevel

/-- A controller restart is its joins, its sheds and its notices, and the end of the event (R135 to R137). -/
theorem controllerRestart_spec (s : State) (cause : RestartCause) (hcls : ∀ c, (s.restartConfig.channels.get c).cls ≤ 3) :
    ∃ order line u,
      let j := s.restartJoined.1
      let v := j.restartSheds.1
      let sheds := shedNotices .budget j u j.budget.committed order ++ shedNotices .line u v u.budget.committed line
      j.budget.InRank j.budget.Excess order ∧ ShedsDone .budget j u order
      ∧ u.budget.InRank (fun c => s.budget.shedLevel = .asserted ∧ u.budget.Sheddable c) line ∧ ShedsDone .line u v line
      ∧ s.controllerRestart cause = ((v.post none (restartedNotice s v cause order line)).postAll sheds).settle
      ∧ sheds.length ≤ 16 := by
  obtain ⟨hjoined, -, -⟩ := restartJoined_spec s hcls
  obtain ⟨order, line, u, o1, o2, o3, o4, o5, o6⟩ := restartSheds_spec s.restartJoined.1
  have hlevel : s.restartJoined.1.budget.shedLevel = s.budget.shedLevel := by rw [restartJoined_budget s hcls]
  rw [hlevel] at o3
  refine ⟨order, line, u, o1, o2, o3, o4, ?_, ?_⟩
  · have hset : shedSet s.restartJoined.1.restartSheds.2 = Chan.all.filter fun c => order.contains c || line.contains c := by
      rw [shedSet_eq, o6]
      exact List.filter_congr fun c _ => by simp
    rw [controllerRestart_eq, ← o5, restartedNotice, ← hset, ← hjoined]
    rfl
  · have horder := Chan.nodup_length_le o1.1
    have hline := Chan.nodup_length_le o3.1
    rw [← o5, List.length_map, ← List.length_map (f := (·.1)), o6, List.length_append]
    omega

/-- What stands after the end of a controller restart (R136 step 5, R137). -/
theorem controllerRestart_ends {s u v t : State} {cause : RestartCause} {order line : List Chan}
    {sheds : List (Option Chan × NoticeBody)} (hcls : ∀ c, (s.restartConfig.channels.get c).cls ≤ 3)
    (o2 : ShedsDone .budget s.restartJoined.1 u order) (o4 : ShedsDone .line u v line)
    (ht : t = ((v.post none (restartedNotice s v cause order line)).postAll sheds).settle)
    (hcount : sheds.length ≤ 16) :
    StartsAfresh s.restartConfig t ∧ t.profile = s.restartJoined.1.profile ∧ t.budget = { v.budget with scanDue := false }
    ∧ (∀ c, t.chan c = v.chan c)
    ∧ (s.restartConfig.subscriptions.getLsbD 12 = true → ∃ rest,
        t.notices.queue = ⟨0, .urgent, 0, none, restartedNotice s v cause order line, 0, .unsent, false⟩ :: rest)
    ∧ t.notices.sessionOpen = false := by
  obtain ⟨hv, hnotices, huptime, hlink, -, hbus⟩ := restartSheds_frame hcls o2 o4
  obtain ⟨hn, hbudget, hclosed, hhead⟩ := startEvent_spec (body := restartedNotice s v cause order line) (sheds := sheds)
    hnotices huptime hlink hbus rfl rfl hcount
  rw [← ht] at hn hbudget hclosed hhead
  have hjt : OnlyChanges ([.budget, .notices] ++ Chan.all.map Part.chan) s.restartJoined.1 t :=
    (hv.append hn).mono fun p hp => by cases p <;> simp at hp ⊢
  have hstart : OnlyChanges ([.budget, .notices] ++ Chan.all.map Part.chan) s.atRestart t :=
    ((restartJoined_only s).append hjt).mono fun p hp => by cases p <;> simp at hp ⊢
  have hprofile : t.profile = s.restartJoined.1.profile := hjt .profile (by simp)
  have hchan : ∀ c, t.chan c = v.chan c := fun c => hn (.chan c) (by simp)
  exact ⟨(atRestart_startsAfresh s).congr hstart, hprofile, hbudget, hchan, hhead, hclosed⟩

/-- What the joins of a controller restart leave as the start has it (the table of R135). -/
theorem restartJoined_frame (s : State) :
    let j := s.restartJoined.1
    StartsAfresh s.restartConfig j ∧ j.link.stats = s.link.stats ∧ j.link.nextId = s.link.nextId
    ∧ j.profile = { s.profile.start with resetFilter := s.profile.resetFilter.map fun e => min 1 (e - s.uptime) }
    ∧ j.notices = startNotices s.restartConfig
    ∧ j.powered = s.powered ∧ j.pins = s.pins ∧ j.draws = s.draws ∧ j.pending = s.pending := by
  have hj := restartJoined_only s
  generalize s.restartJoined.1 = j at hj
  have hafresh : StartsAfresh s.restartConfig j := (atRestart_startsAfresh s).congr (hj.mono (by simp))
  have hlink : j.link = s.atRestart.link := hj .link (by simp)
  have hprofile : j.profile = s.atRestart.profile := hj .profile (by simp)
  have hnotices : j.notices = s.atRestart.notices := hj .notices (by simp)
  have hpowered : j.powered = s.atRestart.powered := hj .powered (by simp)
  have hpins : j.pins = s.atRestart.pins := hj .pins (by simp)
  have hdraws : j.draws = s.atRestart.draws := hj .draws (by simp)
  have hpending : j.pending = s.atRestart.pending := hj .pending (by simp)
  exact ⟨hafresh, (congrArg Link.stats hlink).trans rfl, (congrArg Link.nextId hlink).trans rfl, hprofile, hnotices, hpowered,
    hpins, hdraws, hpending⟩

/-- What the sheds of a controller restart come to, channel by channel (R39 to R41, R136 steps 3 and 4). -/
theorem restartSheds_outcome {s u v : State} {order line : List Chan}
    (hcls : ∀ c, (s.restartConfig.channels.get c).cls ≤ 3)
    (o1 : s.restartJoined.1.budget.InRank s.restartJoined.1.budget.Excess order) (o2 : ShedsDone .budget s.restartJoined.1 u order)
    (o3 : u.budget.InRank (fun c => s.budget.shedLevel = .asserted ∧ u.budget.Sheddable c) line)
    (o4 : ShedsDone .line u v line) (c : Chan) :
    (c ∉ order → c ∉ line → v.chan c = s.restartJoined.1.chan c
      ∧ v.budget.records.get c = s.restartJoined.1.budget.records.get c)
    ∧ (c ∈ order ∨ c ∈ line → heldThrough s s.restartConfig c = true ∧ v.budget.records.get c = none ∧ (v.chan c).gate = .off
        ∧ (v.chan c).lastOff = (if c ∈ order then .shedBudget else .shedLine)
        ∧ (v.chan c).state =
          if (s.restartConfig.channels.get c).afterShed = .requeue ∧ fitsAfter s.restartConfig c = true then .queued else .off) := by
  obtain ⟨hstays, hshed⟩ := restartSheds_chan o1 o2 o3 o4 c
  refine ⟨hstays, fun h => ?_⟩
  obtain ⟨h1, h2, h3, h4, h5⟩ := hshed h
  have hcfg : (s.restartJoined.1.chan c).cfg = s.restartConfig.channels.get c := by rw [restartJoined_chan s hcls c]; rfl
  have hsettings : s.restartJoined.1.budget.settings = s.restartConfig.budget := by rw [restartJoined_budget s hcls]
  refine ⟨(restartJoined_holds s hcls c).1 h1, h2, h3, h4, ?_⟩
  rw [h5, hcfg, hsettings]
  simp only [fitsAfter, decide_eq_true_eq]

/-- With the held allowances within the loaded limit the restart sheds nothing for the budget. -/
theorem restartOrder_nil {s : State} {order : List Chan} (hcls : ∀ c, (s.restartConfig.channels.get c).cls ≤ 3)
    (o1 : s.restartJoined.1.budget.InRank s.restartJoined.1.budget.Excess order)
    (hsum : ((Chan.all.filter (heldThrough s s.restartConfig)).map fun c => (s.restartConfig.channels.get c).allowance).sum
      ≤ s.restartConfig.budget.limit) : order = [] := by
  have hsettings : s.restartJoined.1.budget.settings = s.restartConfig.budget := by rw [restartJoined_budget s hcls]
  rw [← restartJoined_committed s hcls, ← hsettings] at hsum
  refine List.eq_nil_iff_forall_not_mem.2 fun c hc => ?_
  obtain ⟨-, hexcess⟩ := (o1.mem_iff c).1 hc
  have hmost := s.restartJoined.1.budget.amountFrom_le c
  omega

theorem restartLine_nil {s u : State} {line : List Chan}
    (o3 : u.budget.InRank (fun c => s.budget.shedLevel = .asserted ∧ u.budget.Sheddable c) line)
    (h : s.budget.shedLevel = .released) : line = [] := by
  refine List.eq_nil_iff_forall_not_mem.2 fun c hc => ?_
  obtain ⟨hlevel, -⟩ := (o3.mem_iff c).1 hc
  rw [h] at hlevel
  cases hlevel

/-- The Budget Manager after a controller restart: within the loaded limit, with no bus sample yet (R28, R29). -/
theorem controllerRestart_budget {s u v : State} {cause : RestartCause} {order line : List Chan}
    (hcls : ∀ c, (s.restartConfig.channels.get c).cls ≤ 3)
    (o2 : ShedsDone .budget s.restartJoined.1 u order) (o4 : ShedsDone .line u v line)
    (hbudget : (s.controllerRestart cause).budget = { v.budget with scanDue := false }) :
    (s.controllerRestart cause).budget.committed ≤ s.restartConfig.budget.limit
    ∧ (s.controllerRestart cause).budget.busGood = false := by
  obtain ⟨-, -, -, -, hsettings, hbus⟩ := restartSheds_frame hcls o2 o4
  obtain ⟨hwithin, -⟩ := controllerRestart_within s cause
  rw [hbudget] at hwithin ⊢
  exact ⟨hsettings ▸ hwithin, hbus⟩

/-- Settles O40: `restartJoined_chan` is the table of R135, `controllerRestart_spec` its order of events. -/
theorem controllerRestartTable : Obligations.ControllerRestartTable := by
  intro s cause
  dsimp only
  intro hcls
  obtain ⟨order, line, u, o1, o2, o3, o4, ht, hcount⟩ := controllerRestart_spec s cause hcls
  obtain ⟨k1, k2, k3, k4, k5, k6⟩ := controllerRestart_ends hcls o2 o4 ht hcount
  obtain ⟨f1, f2, f3, f4, f5, f6, f7, f8, f9⟩ := restartJoined_frame s
  obtain ⟨hcommitted, hbus⟩ := controllerRestart_budget hcls o2 o4 k3
  have hgeneration : s.profile.start.loadedGeneration =
      match s.profile.start.current with | some k => (s.profile.start.record k).generation | none => 0 :=
    Profile.start_generation _
  rw [restartedNotice, hgeneration] at ht k5
  have hrecords (c : Chan) : (s.controllerRestart cause).budget.records.get c
      = s.restartJoined.1.restartSheds.1.budget.records.get c := by
    rw [show (s.controllerRestart cause).budget = _ from k3]
  refine ⟨s.restartJoined.1, order, u, line, s.restartJoined.1.restartSheds.1, restartJoined_chan s hcls,
    restartJoined_budget s hcls, f1, f2, f3, f4, f5, f6, f7, f8, f9, o1, o2, o3, o4, ht, k1, k2, k3, fun c => ?_, fun c => ?_,
    restartOrder_nil hcls o1, restartLine_nil o3, k5, k6, hcommitted, hbus⟩
  · rw [hrecords, show (s.controllerRestart cause).chan c = _ from k4 c]
    exact (restartSheds_outcome hcls o1 o2 o3 o4 c).1
  · rw [hrecords, show (s.controllerRestart cause).chan c = _ from k4 c]
    exact (restartSheds_outcome hcls o1 o2 o3 o4 c).2

end Sys2Proof.Machine
end
